-- ==== Sys2Proof/Word.lean ====
section
/-! DEFINITION. The word types of the Z8: every register is a byte, every program and data address a 16-bit word,
a working-register number and a bank number a nibble (spec/00_scope.md R4, R6). -/

namespace Sys2Proof

/-- A 4-bit field: a working-register number, a bank number, half a byte (00_scope.md R4). -/
abbrev Nibble := BitVec 4

/-- A register's contents and a register-file address (00_scope.md R4, R6). -/
abbrev Byte := BitVec 8

/-- The program counter, a program or data address, a register pair's contents (00_scope.md R4, R6). -/
abbrev Word := BitVec 16

end Sys2Proof
end

