-- ==== Sys2Proof/Machine/Bits.lean ====
section
/-! DEFINITION. Bit fields, byte order and sign extension: the helpers that decoding and the machine share
(spec/00_scope.md R5, R6; spec/20_memory.md R61 to R63). -/

namespace Sys2Proof

/-- `b[7:4]` (00_scope.md R5). -/
def hiNib (b : Byte) : Nibble := b.extractLsb' 4 4

/-- `b[3:0]` (00_scope.md R5). -/
def loNib (b : Byte) : Nibble := b.extractLsb' 0 4

/-- `h ‖ l`, the high nibble first (00_scope.md R5). -/
def nibbles (h l : Nibble) : Byte := h ++ l

/-- `w[15:8]` (00_scope.md R5). -/
def hiByte (w : Word) : Byte := w.extractLsb' 8 8

/-- `w[7:0]` (00_scope.md R5). -/
def loByte (w : Word) : Byte := w.extractLsb' 0 8

/-- `h ‖ l`, the high byte first: register pairs, stacked words and DA operands (20_memory.md R61 to R63). -/
def word16 (h l : Byte) : Word := h ++ l

/-- `sext_16`: a byte read as two's complement, widened to 16 bits (00_scope.md R6). -/
def sext16 (b : Byte) : Word := b.signExtend 16

/-- `zext_16`: a byte widened with zeros (00_scope.md R6). -/
def zext16 (b : Byte) : Word := b.setWidth 16

/-- `b` with bit `i` made `v`, the other bits as they are. -/
def setBit (b : Byte) (i : Nat) (v : Bool) : Byte :=
  if v then b ||| (1#8 <<< i) else b &&& ~~~(1#8 <<< i)

/-- Bit 0 of an address: a register pair is named by an even one (10_state.md R27, 30_encoding.md R111). -/
def isOdd (b : Byte) : Bool := b.getLsbD 0

end Sys2Proof
end

