-- ==== Sys2Proof/Syntax.lean ====
section
/-! DEFINITION. The abstract syntax of the instruction set: one constructor per row of spec/opcode_table.json, named by
the row's mnemonic and its modes in the table's order (destination first). -/

namespace Sys2Proof

/-- An operand byte of mode R, IR, RR or IRR (30_encoding.md R93): a register by its 8-bit address, or a working
register through the E-escape. -/
inductive RegOp where
  /-- the register at address `a`; `a[7:4]` is never EH in an encoding (R93) -/
  | reg (a : Byte)
  /-- working register `n`, written as the byte `1110B ‖ n` -/
  | wr (n : Nibble)
  deriving DecidableEq, Repr

/-- The sixteen condition codes, in the order of their numbers (30_encoding.md R108; log 3). -/
inductive Cond where
  | f
  | lt
  | le
  | ule
  | ov
  | mi
  | eq
  | c
  | always
  | ge
  | gt
  | ugt
  | nov
  | pl
  | ne
  | nc
  deriving DecidableEq, Repr

/-- An instruction (30_encoding.md R91, R106). Working registers `r`, `Ir` and pairs `Irr` are 4-bit numbers; `R`, `IR`,
`RR`, `IRR` are operand bytes; `IM` is a byte, `ld_R_r`'s destination a full register address, `RA` a displacement byte, `DA` a 16-bit address; `X` is an index working
register and an offset byte. -/
inductive Instr where
  /-- 02H ADD r,r (40_arithmetic.md R133) -/
  | add_r_r (dst : Nibble) (src : Nibble)
  /-- 03H ADD r,Ir (40_arithmetic.md R133) -/
  | add_r_Ir (dst : Nibble) (src : Nibble)
  /-- 04H ADD R,R (40_arithmetic.md R133) -/
  | add_R_R (dst : RegOp) (src : RegOp)
  /-- 05H ADD R,IR (40_arithmetic.md R133) -/
  | add_R_IR (dst : RegOp) (src : RegOp)
  /-- 06H ADD R,IM (40_arithmetic.md R133) -/
  | add_R_IM (dst : RegOp) (src : Byte)
  /-- 07H ADD IR,IM (40_arithmetic.md R133) -/
  | add_IR_IM (dst : RegOp) (src : Byte)
  /-- 12H ADC r,r (40_arithmetic.md R132) -/
  | adc_r_r (dst : Nibble) (src : Nibble)
  /-- 13H ADC r,Ir (40_arithmetic.md R132) -/
  | adc_r_Ir (dst : Nibble) (src : Nibble)
  /-- 14H ADC R,R (40_arithmetic.md R132) -/
  | adc_R_R (dst : RegOp) (src : RegOp)
  /-- 15H ADC R,IR (40_arithmetic.md R132) -/
  | adc_R_IR (dst : RegOp) (src : RegOp)
  /-- 16H ADC R,IM (40_arithmetic.md R132) -/
  | adc_R_IM (dst : RegOp) (src : Byte)
  /-- 17H ADC IR,IM (40_arithmetic.md R132) -/
  | adc_IR_IM (dst : RegOp) (src : Byte)
  /-- 22H SUB r,r (40_arithmetic.md R141) -/
  | sub_r_r (dst : Nibble) (src : Nibble)
  /-- 23H SUB r,Ir (40_arithmetic.md R141) -/
  | sub_r_Ir (dst : Nibble) (src : Nibble)
  /-- 24H SUB R,R (40_arithmetic.md R141) -/
  | sub_R_R (dst : RegOp) (src : RegOp)
  /-- 25H SUB R,IR (40_arithmetic.md R141) -/
  | sub_R_IR (dst : RegOp) (src : RegOp)
  /-- 26H SUB R,IM (40_arithmetic.md R141) -/
  | sub_R_IM (dst : RegOp) (src : Byte)
  /-- 27H SUB IR,IM (40_arithmetic.md R141) -/
  | sub_IR_IM (dst : RegOp) (src : Byte)
  /-- 32H SBC r,r (40_arithmetic.md R140) -/
  | sbc_r_r (dst : Nibble) (src : Nibble)
  /-- 33H SBC r,Ir (40_arithmetic.md R140) -/
  | sbc_r_Ir (dst : Nibble) (src : Nibble)
  /-- 34H SBC R,R (40_arithmetic.md R140) -/
  | sbc_R_R (dst : RegOp) (src : RegOp)
  /-- 35H SBC R,IR (40_arithmetic.md R140) -/
  | sbc_R_IR (dst : RegOp) (src : RegOp)
  /-- 36H SBC R,IM (40_arithmetic.md R140) -/
  | sbc_R_IM (dst : RegOp) (src : Byte)
  /-- 37H SBC IR,IM (40_arithmetic.md R140) -/
  | sbc_IR_IM (dst : RegOp) (src : Byte)
  /-- 42H OR r,r (41_logical.md R163) -/
  | or_r_r (dst : Nibble) (src : Nibble)
  /-- 43H OR r,Ir (41_logical.md R163) -/
  | or_r_Ir (dst : Nibble) (src : Nibble)
  /-- 44H OR R,R (41_logical.md R163) -/
  | or_R_R (dst : RegOp) (src : RegOp)
  /-- 45H OR R,IR (41_logical.md R163) -/
  | or_R_IR (dst : RegOp) (src : RegOp)
  /-- 46H OR R,IM (41_logical.md R163) -/
  | or_R_IM (dst : RegOp) (src : Byte)
  /-- 47H OR IR,IM (41_logical.md R163) -/
  | or_IR_IM (dst : RegOp) (src : Byte)
  /-- 52H AND r,r (41_logical.md R161) -/
  | and_r_r (dst : Nibble) (src : Nibble)
  /-- 53H AND r,Ir (41_logical.md R161) -/
  | and_r_Ir (dst : Nibble) (src : Nibble)
  /-- 54H AND R,R (41_logical.md R161) -/
  | and_R_R (dst : RegOp) (src : RegOp)
  /-- 55H AND R,IR (41_logical.md R161) -/
  | and_R_IR (dst : RegOp) (src : RegOp)
  /-- 56H AND R,IM (41_logical.md R161) -/
  | and_R_IM (dst : RegOp) (src : Byte)
  /-- 57H AND IR,IM (41_logical.md R161) -/
  | and_IR_IM (dst : RegOp) (src : Byte)
  /-- 62H TCM r,r (41_logical.md R165) -/
  | tcm_r_r (dst : Nibble) (src : Nibble)
  /-- 63H TCM r,Ir (41_logical.md R165) -/
  | tcm_r_Ir (dst : Nibble) (src : Nibble)
  /-- 64H TCM R,R (41_logical.md R165) -/
  | tcm_R_R (dst : RegOp) (src : RegOp)
  /-- 65H TCM R,IR (41_logical.md R165) -/
  | tcm_R_IR (dst : RegOp) (src : RegOp)
  /-- 66H TCM R,IM (41_logical.md R165) -/
  | tcm_R_IM (dst : RegOp) (src : Byte)
  /-- 67H TCM IR,IM (41_logical.md R165) -/
  | tcm_IR_IM (dst : RegOp) (src : Byte)
  /-- 72H TM r,r (41_logical.md R166) -/
  | tm_r_r (dst : Nibble) (src : Nibble)
  /-- 73H TM r,Ir (41_logical.md R166) -/
  | tm_r_Ir (dst : Nibble) (src : Nibble)
  /-- 74H TM R,R (41_logical.md R166) -/
  | tm_R_R (dst : RegOp) (src : RegOp)
  /-- 75H TM R,IR (41_logical.md R166) -/
  | tm_R_IR (dst : RegOp) (src : RegOp)
  /-- 76H TM R,IM (41_logical.md R166) -/
  | tm_R_IM (dst : RegOp) (src : Byte)
  /-- 77H TM IR,IM (41_logical.md R166) -/
  | tm_IR_IM (dst : RegOp) (src : Byte)
  /-- A2H CP r,r (40_arithmetic.md R134) -/
  | cp_r_r (dst : Nibble) (src : Nibble)
  /-- A3H CP r,Ir (40_arithmetic.md R134) -/
  | cp_r_Ir (dst : Nibble) (src : Nibble)
  /-- A4H CP R,R (40_arithmetic.md R134) -/
  | cp_R_R (dst : RegOp) (src : RegOp)
  /-- A5H CP R,IR (40_arithmetic.md R134) -/
  | cp_R_IR (dst : RegOp) (src : RegOp)
  /-- A6H CP R,IM (40_arithmetic.md R134) -/
  | cp_R_IM (dst : RegOp) (src : Byte)
  /-- A7H CP IR,IM (40_arithmetic.md R134) -/
  | cp_IR_IM (dst : RegOp) (src : Byte)
  /-- B2H XOR r,r (41_logical.md R164) -/
  | xor_r_r (dst : Nibble) (src : Nibble)
  /-- B3H XOR r,Ir (41_logical.md R164) -/
  | xor_r_Ir (dst : Nibble) (src : Nibble)
  /-- B4H XOR R,R (41_logical.md R164) -/
  | xor_R_R (dst : RegOp) (src : RegOp)
  /-- B5H XOR R,IR (41_logical.md R164) -/
  | xor_R_IR (dst : RegOp) (src : RegOp)
  /-- B6H XOR R,IM (41_logical.md R164) -/
  | xor_R_IM (dst : RegOp) (src : Byte)
  /-- B7H XOR IR,IM (41_logical.md R164) -/
  | xor_IR_IM (dst : RegOp) (src : Byte)
  /-- 00H DEC R (40_arithmetic.md R136) -/
  | dec_R (dst : RegOp)
  /-- 01H DEC IR (40_arithmetic.md R136) -/
  | dec_IR (dst : RegOp)
  /-- 10H RLC R (42_rotate_shift.md R182) -/
  | rlc_R (dst : RegOp)
  /-- 11H RLC IR (42_rotate_shift.md R182) -/
  | rlc_IR (dst : RegOp)
  /-- 20H INC R (40_arithmetic.md R138) -/
  | inc_R (dst : RegOp)
  /-- 21H INC IR (40_arithmetic.md R138) -/
  | inc_IR (dst : RegOp)
  /-- 40H DA R (40_arithmetic.md R135) -/
  | da_R (dst : RegOp)
  /-- 41H DA IR (40_arithmetic.md R135) -/
  | da_IR (dst : RegOp)
  /-- 50H POP R (43_load.md R214) -/
  | pop_R (dst : RegOp)
  /-- 51H POP IR (43_load.md R214) -/
  | pop_IR (dst : RegOp)
  /-- 60H COM R (41_logical.md R162) -/
  | com_R (dst : RegOp)
  /-- 61H COM IR (41_logical.md R162) -/
  | com_IR (dst : RegOp)
  /-- 70H PUSH R (43_load.md R215) -/
  | push_R (src : RegOp)
  /-- 71H PUSH IR (43_load.md R215) -/
  | push_IR (src : RegOp)
  /-- 80H DECW RR (40_arithmetic.md R137) -/
  | decw_RR (dst : RegOp)
  /-- 81H DECW IR (40_arithmetic.md R137) -/
  | decw_IR (dst : RegOp)
  /-- 90H RL R (42_rotate_shift.md R181) -/
  | rl_R (dst : RegOp)
  /-- 91H RL IR (42_rotate_shift.md R181) -/
  | rl_IR (dst : RegOp)
  /-- A0H INCW RR (40_arithmetic.md R139) -/
  | incw_RR (dst : RegOp)
  /-- A1H INCW IR (40_arithmetic.md R139) -/
  | incw_IR (dst : RegOp)
  /-- B0H CLR R (43_load.md R200) -/
  | clr_R (dst : RegOp)
  /-- B1H CLR IR (43_load.md R200) -/
  | clr_IR (dst : RegOp)
  /-- C0H RRC R (42_rotate_shift.md R184) -/
  | rrc_R (dst : RegOp)
  /-- C1H RRC IR (42_rotate_shift.md R184) -/
  | rrc_IR (dst : RegOp)
  /-- D0H SRA R (42_rotate_shift.md R185) -/
  | sra_R (dst : RegOp)
  /-- D1H SRA IR (42_rotate_shift.md R185) -/
  | sra_IR (dst : RegOp)
  /-- E0H RR R (42_rotate_shift.md R183) -/
  | rr_R (dst : RegOp)
  /-- E1H RR IR (42_rotate_shift.md R183) -/
  | rr_IR (dst : RegOp)
  /-- F0H SWAP R (42_rotate_shift.md R186) -/
  | swap_R (dst : RegOp)
  /-- F1H SWAP IR (42_rotate_shift.md R186) -/
  | swap_IR (dst : RegOp)
  /-- 30H JP IRR (44_control_transfer.md R233) -/
  | jp_IRR (dst : RegOp)
  /-- 31H SRP IM (45_cpu_control.md R257) -/
  | srp_IM (src : Byte)
  /-- D4H CALL IRR (44_control_transfer.md R230) -/
  | call_IRR (dst : RegOp)
  /-- D6H CALL DA (44_control_transfer.md R230) -/
  | call_DA (dst : Word)
  /-- C2H LDC r,Irr (43_load.md R210) -/
  | ldc_r_Irr (dst : Nibble) (src : Nibble)
  /-- D2H LDC Irr,r (43_load.md R210) -/
  | ldc_Irr_r (dst : Nibble) (src : Nibble)
  /-- C3H LDCI Ir,Irr (43_load.md R211) -/
  | ldci_Ir_Irr (dst : Nibble) (src : Nibble)
  /-- D3H LDCI Irr,Ir (43_load.md R211) -/
  | ldci_Irr_Ir (dst : Nibble) (src : Nibble)
  /-- 82H LDE r,Irr (43_load.md R212) -/
  | lde_r_Irr (dst : Nibble) (src : Nibble)
  /-- 92H LDE Irr,r (43_load.md R212) -/
  | lde_Irr_r (dst : Nibble) (src : Nibble)
  /-- 83H LDEI Ir,Irr (43_load.md R213) -/
  | ldei_Ir_Irr (dst : Nibble) (src : Nibble)
  /-- 93H LDEI Irr,Ir (43_load.md R213) -/
  | ldei_Irr_Ir (dst : Nibble) (src : Nibble)
  /-- E3H LD r,Ir (43_load.md R205) -/
  | ld_r_Ir (dst : Nibble) (src : Nibble)
  /-- F3H LD Ir,r (43_load.md R205) -/
  | ld_Ir_r (dst : Nibble) (src : Nibble)
  /-- E4H LD R,R (43_load.md R206) -/
  | ld_R_R (dst : RegOp) (src : RegOp)
  /-- E5H LD R,IR (43_load.md R206) -/
  | ld_R_IR (dst : RegOp) (src : RegOp)
  /-- E6H LD R,IM (43_load.md R206) -/
  | ld_R_IM (dst : RegOp) (src : Byte)
  /-- E7H LD IR,IM (43_load.md R206) -/
  | ld_IR_IM (dst : RegOp) (src : Byte)
  /-- F5H LD IR,R (43_load.md R206) -/
  | ld_IR_R (dst : RegOp) (src : RegOp)
  /-- C7H LD r,X (43_load.md R207) -/
  | ld_r_X (dst : Nibble) (index : Nibble) (offset : Byte)
  /-- D7H LD X,r (43_load.md R207) -/
  | ld_X_r (index : Nibble) (offset : Byte) (src : Nibble)
  /-- r8H LD r,R (43_load.md R203) -/
  | ld_r_R (dst : Nibble) (src : RegOp)
  /-- r9H LD R,r (43_load.md R204) -/
  | ld_R_r (dst : Byte) (src : Nibble)
  /-- rAH DJNZ r,RA (44_control_transfer.md R231) -/
  | djnz_r_RA (r : Nibble) (dst : Byte)
  /-- ccBH JR cc,RA (44_control_transfer.md R234) -/
  | jr_cc_RA (cc : Cond) (dst : Byte)
  /-- rCH LD r,IM (43_load.md R202) -/
  | ld_r_IM (dst : Nibble) (src : Byte)
  /-- ccDH JP cc,DA (44_control_transfer.md R233) -/
  | jp_cc_DA (cc : Cond) (dst : Word)
  /-- rEH INC r (40_arithmetic.md R138) -/
  | inc_r (dst : Nibble)
  /-- 4FH WDH (45_cpu_control.md R259) -/
  | wdh
  /-- 5FH WDT (45_cpu_control.md R260) -/
  | wdt
  /-- 6FH STOP (45_cpu_control.md R258) -/
  | stop
  /-- 7FH HALT (45_cpu_control.md R253) -/
  | halt
  /-- 8FH DI (45_cpu_control.md R251) -/
  | di
  /-- 9FH EI (45_cpu_control.md R252) -/
  | ei
  /-- AFH RET (44_control_transfer.md R235) -/
  | ret
  /-- BFH IRET (44_control_transfer.md R232) -/
  | iret
  /-- CFH RCF (45_cpu_control.md R255) -/
  | rcf
  /-- DFH SCF (45_cpu_control.md R256) -/
  | scf
  /-- EFH CCF (45_cpu_control.md R250) -/
  | ccf
  /-- FFH NOP (45_cpu_control.md R254) -/
  | nop
  deriving DecidableEq, Repr

end Sys2Proof
end

