-- ==== Sys2Proof/WellFormed.lean ====
section
/-! DEFINITION. Which abstract instructions an encoding stands for (`HasEncoding`), and which of those name their operands
as the spec requires (`WellFormed`). -/

namespace Sys2Proof

/-- A direct register operand byte is never E0H-EFH: those bytes name working registers (30_encoding.md R93). -/
def RegOp.encodable : RegOp → Bool
  | .reg a => hiNib a != 0xE
  | .wr _ => true

/-- The operand names an even register: a register pair (30_encoding.md R111). -/
def RegOp.even : RegOp → Bool
  | .reg a => !isOdd a
  | .wr n => !n.getLsbD 0

/-- A working register pair is named by an even number (30_encoding.md R111). -/
def evenNumber (n : Nibble) : Bool := !n.getLsbD 0

/-- The destination byte of LD R,r is "a full 8-bit register", not an escaped one (30_encoding.md R110 (b)). -/
def fullAddress (a : Byte) : Bool := hiNib a != 0xE

/-- The instruction has an encoding: no direct operand byte lies in E0H-EFH (30_encoding.md R93). -/
def HasEncoding : Instr → Bool
  | .add_r_r _ _ => true
  | .add_r_Ir _ _ => true
  | .add_R_R dst src => dst.encodable && src.encodable
  | .add_R_IR dst src => dst.encodable && src.encodable
  | .add_R_IM dst _ => dst.encodable
  | .add_IR_IM dst _ => dst.encodable
  | .adc_r_r _ _ => true
  | .adc_r_Ir _ _ => true
  | .adc_R_R dst src => dst.encodable && src.encodable
  | .adc_R_IR dst src => dst.encodable && src.encodable
  | .adc_R_IM dst _ => dst.encodable
  | .adc_IR_IM dst _ => dst.encodable
  | .sub_r_r _ _ => true
  | .sub_r_Ir _ _ => true
  | .sub_R_R dst src => dst.encodable && src.encodable
  | .sub_R_IR dst src => dst.encodable && src.encodable
  | .sub_R_IM dst _ => dst.encodable
  | .sub_IR_IM dst _ => dst.encodable
  | .sbc_r_r _ _ => true
  | .sbc_r_Ir _ _ => true
  | .sbc_R_R dst src => dst.encodable && src.encodable
  | .sbc_R_IR dst src => dst.encodable && src.encodable
  | .sbc_R_IM dst _ => dst.encodable
  | .sbc_IR_IM dst _ => dst.encodable
  | .or_r_r _ _ => true
  | .or_r_Ir _ _ => true
  | .or_R_R dst src => dst.encodable && src.encodable
  | .or_R_IR dst src => dst.encodable && src.encodable
  | .or_R_IM dst _ => dst.encodable
  | .or_IR_IM dst _ => dst.encodable
  | .and_r_r _ _ => true
  | .and_r_Ir _ _ => true
  | .and_R_R dst src => dst.encodable && src.encodable
  | .and_R_IR dst src => dst.encodable && src.encodable
  | .and_R_IM dst _ => dst.encodable
  | .and_IR_IM dst _ => dst.encodable
  | .tcm_r_r _ _ => true
  | .tcm_r_Ir _ _ => true
  | .tcm_R_R dst src => dst.encodable && src.encodable
  | .tcm_R_IR dst src => dst.encodable && src.encodable
  | .tcm_R_IM dst _ => dst.encodable
  | .tcm_IR_IM dst _ => dst.encodable
  | .tm_r_r _ _ => true
  | .tm_r_Ir _ _ => true
  | .tm_R_R dst src => dst.encodable && src.encodable
  | .tm_R_IR dst src => dst.encodable && src.encodable
  | .tm_R_IM dst _ => dst.encodable
  | .tm_IR_IM dst _ => dst.encodable
  | .cp_r_r _ _ => true
  | .cp_r_Ir _ _ => true
  | .cp_R_R dst src => dst.encodable && src.encodable
  | .cp_R_IR dst src => dst.encodable && src.encodable
  | .cp_R_IM dst _ => dst.encodable
  | .cp_IR_IM dst _ => dst.encodable
  | .xor_r_r _ _ => true
  | .xor_r_Ir _ _ => true
  | .xor_R_R dst src => dst.encodable && src.encodable
  | .xor_R_IR dst src => dst.encodable && src.encodable
  | .xor_R_IM dst _ => dst.encodable
  | .xor_IR_IM dst _ => dst.encodable
  | .dec_R dst => dst.encodable
  | .dec_IR dst => dst.encodable
  | .rlc_R dst => dst.encodable
  | .rlc_IR dst => dst.encodable
  | .inc_R dst => dst.encodable
  | .inc_IR dst => dst.encodable
  | .da_R dst => dst.encodable
  | .da_IR dst => dst.encodable
  | .pop_R dst => dst.encodable
  | .pop_IR dst => dst.encodable
  | .com_R dst => dst.encodable
  | .com_IR dst => dst.encodable
  | .push_R src => src.encodable
  | .push_IR src => src.encodable
  | .decw_RR dst => dst.encodable
  | .decw_IR dst => dst.encodable
  | .rl_R dst => dst.encodable
  | .rl_IR dst => dst.encodable
  | .incw_RR dst => dst.encodable
  | .incw_IR dst => dst.encodable
  | .clr_R dst => dst.encodable
  | .clr_IR dst => dst.encodable
  | .rrc_R dst => dst.encodable
  | .rrc_IR dst => dst.encodable
  | .sra_R dst => dst.encodable
  | .sra_IR dst => dst.encodable
  | .rr_R dst => dst.encodable
  | .rr_IR dst => dst.encodable
  | .swap_R dst => dst.encodable
  | .swap_IR dst => dst.encodable
  | .jp_IRR dst => dst.encodable
  | .srp_IM _ => true
  | .call_IRR dst => dst.encodable
  | .call_DA _ => true
  | .ldc_r_Irr _ _ => true
  | .ldc_Irr_r _ _ => true
  | .ldci_Ir_Irr _ _ => true
  | .ldci_Irr_Ir _ _ => true
  | .lde_r_Irr _ _ => true
  | .lde_Irr_r _ _ => true
  | .ldei_Ir_Irr _ _ => true
  | .ldei_Irr_Ir _ _ => true
  | .ld_r_Ir _ _ => true
  | .ld_Ir_r _ _ => true
  | .ld_R_R dst src => dst.encodable && src.encodable
  | .ld_R_IR dst src => dst.encodable && src.encodable
  | .ld_R_IM dst _ => dst.encodable
  | .ld_IR_IM dst _ => dst.encodable
  | .ld_IR_R dst src => dst.encodable && src.encodable
  | .ld_r_X _ _ _ => true
  | .ld_X_r _ _ _ => true
  | .ld_r_R _ src => src.encodable
  | .ld_R_r _ _ => true
  | .djnz_r_RA _ _ => true
  | .jr_cc_RA _ _ => true
  | .ld_r_IM _ _ => true
  | .jp_cc_DA _ _ => true
  | .inc_r _ => true
  | .wdh => true
  | .wdt => true
  | .stop => true
  | .halt => true
  | .di => true
  | .ei => true
  | .ret => true
  | .iret => true
  | .rcf => true
  | .scf => true
  | .ccf => true
  | .nop => true

/-- The operand requirements of 30_encoding.md R110 (b) and R111 that the encoding alone decides. -/
def operandsLegal : Instr → Bool
  | .add_r_r _ _ => true
  | .add_r_Ir _ _ => true
  | .add_R_R _ _ => true
  | .add_R_IR _ _ => true
  | .add_R_IM _ _ => true
  | .add_IR_IM _ _ => true
  | .adc_r_r _ _ => true
  | .adc_r_Ir _ _ => true
  | .adc_R_R _ _ => true
  | .adc_R_IR _ _ => true
  | .adc_R_IM _ _ => true
  | .adc_IR_IM _ _ => true
  | .sub_r_r _ _ => true
  | .sub_r_Ir _ _ => true
  | .sub_R_R _ _ => true
  | .sub_R_IR _ _ => true
  | .sub_R_IM _ _ => true
  | .sub_IR_IM _ _ => true
  | .sbc_r_r _ _ => true
  | .sbc_r_Ir _ _ => true
  | .sbc_R_R _ _ => true
  | .sbc_R_IR _ _ => true
  | .sbc_R_IM _ _ => true
  | .sbc_IR_IM _ _ => true
  | .or_r_r _ _ => true
  | .or_r_Ir _ _ => true
  | .or_R_R _ _ => true
  | .or_R_IR _ _ => true
  | .or_R_IM _ _ => true
  | .or_IR_IM _ _ => true
  | .and_r_r _ _ => true
  | .and_r_Ir _ _ => true
  | .and_R_R _ _ => true
  | .and_R_IR _ _ => true
  | .and_R_IM _ _ => true
  | .and_IR_IM _ _ => true
  | .tcm_r_r _ _ => true
  | .tcm_r_Ir _ _ => true
  | .tcm_R_R _ _ => true
  | .tcm_R_IR _ _ => true
  | .tcm_R_IM _ _ => true
  | .tcm_IR_IM _ _ => true
  | .tm_r_r _ _ => true
  | .tm_r_Ir _ _ => true
  | .tm_R_R _ _ => true
  | .tm_R_IR _ _ => true
  | .tm_R_IM _ _ => true
  | .tm_IR_IM _ _ => true
  | .cp_r_r _ _ => true
  | .cp_r_Ir _ _ => true
  | .cp_R_R _ _ => true
  | .cp_R_IR _ _ => true
  | .cp_R_IM _ _ => true
  | .cp_IR_IM _ _ => true
  | .xor_r_r _ _ => true
  | .xor_r_Ir _ _ => true
  | .xor_R_R _ _ => true
  | .xor_R_IR _ _ => true
  | .xor_R_IM _ _ => true
  | .xor_IR_IM _ _ => true
  | .dec_R _ => true
  | .dec_IR _ => true
  | .rlc_R _ => true
  | .rlc_IR _ => true
  | .inc_R _ => true
  | .inc_IR _ => true
  | .da_R _ => true
  | .da_IR _ => true
  | .pop_R _ => true
  | .pop_IR _ => true
  | .com_R _ => true
  | .com_IR _ => true
  | .push_R _ => true
  | .push_IR _ => true
  | .decw_RR dst => dst.even
  | .decw_IR _ => true
  | .rl_R _ => true
  | .rl_IR _ => true
  | .incw_RR dst => dst.even
  | .incw_IR _ => true
  | .clr_R _ => true
  | .clr_IR _ => true
  | .rrc_R _ => true
  | .rrc_IR _ => true
  | .sra_R _ => true
  | .sra_IR _ => true
  | .rr_R _ => true
  | .rr_IR _ => true
  | .swap_R _ => true
  | .swap_IR _ => true
  | .jp_IRR dst => dst.even
  | .srp_IM _ => true
  | .call_IRR dst => dst.even
  | .call_DA _ => true
  | .ldc_r_Irr _ src => evenNumber src
  | .ldc_Irr_r dst _ => evenNumber dst
  | .ldci_Ir_Irr _ src => evenNumber src
  | .ldci_Irr_Ir dst _ => evenNumber dst
  | .lde_r_Irr _ src => evenNumber src
  | .lde_Irr_r dst _ => evenNumber dst
  | .ldei_Ir_Irr _ src => evenNumber src
  | .ldei_Irr_Ir dst _ => evenNumber dst
  | .ld_r_Ir _ _ => true
  | .ld_Ir_r _ _ => true
  | .ld_R_R _ _ => true
  | .ld_R_IR _ _ => true
  | .ld_R_IM _ _ => true
  | .ld_IR_IM _ _ => true
  | .ld_IR_R _ _ => true
  | .ld_r_X _ _ _ => true
  | .ld_X_r _ _ _ => true
  | .ld_r_R _ _ => true
  | .ld_R_r dst _ => fullAddress dst
  | .djnz_r_RA _ _ => true
  | .jr_cc_RA _ _ => true
  | .ld_r_IM _ _ => true
  | .jp_cc_DA _ _ => true
  | .inc_r _ => true
  | .wdh => true
  | .wdt => true
  | .stop => true
  | .halt => true
  | .di => true
  | .ei => true
  | .ret => true
  | .iret => true
  | .rcf => true
  | .scf => true
  | .ccf => true
  | .nop => true

/-- A well-formed instruction: it has an encoding and its operands are the ones the spec allows. An instruction that has
an encoding and illegal operands still decodes, and its meaning faults by name (log 27). -/
def WellFormed (i : Instr) : Bool := HasEncoding i && operandsLegal i

end Sys2Proof
end

