-- ==== Sys2Proof/Decode.lean ====
section
/-! DEFINITION. Decoding, total on any bytes and rejecting by name, and the encoder written beside it from the same
tables (spec/30_encoding.md R90 to R111). -/

namespace Sys2Proof

/-- Why bytes are no instruction. -/
inductive Reject where
  /-- the first byte is one of the unassigned opcodes (30_encoding.md R109) -/
  | unassignedOpcode (b0 : Byte)
  /-- the bytes end before the instruction does -/
  | truncated
  deriving DecidableEq, Repr

/-- Reads the bytes after the opcode: the instruction and the bytes left over. -/
abbrev Reader := List Byte → Except Reject (Instr × List Byte)

/-- The operand byte of mode R, IR, RR or IRR (30_encoding.md R93): high nibble EH names a working register. -/
def RegOp.ofByte (b : Byte) : RegOp := if hiNib b = 0xE then .wr (loNib b) else .reg b

/-- The byte that names the operand (30_encoding.md R93). -/
def RegOp.toByte : RegOp → Byte
  | .reg a => a
  | .wr n => nibbles 0xE n

/-- The condition of a condition-code field (30_encoding.md R108). -/
def Cond.ofNibble (n : Nibble) : Cond :=
  match n.toNat with
  | 0x0 => .f
  | 0x1 => .lt
  | 0x2 => .le
  | 0x3 => .ule
  | 0x4 => .ov
  | 0x5 => .mi
  | 0x6 => .eq
  | 0x7 => .c
  | 0x8 => .always
  | 0x9 => .ge
  | 0xA => .gt
  | 0xB => .ugt
  | 0xC => .nov
  | 0xD => .pl
  | 0xE => .ne
  | _ => .nc

/-- The condition-code field of a condition (30_encoding.md R108). -/
def Cond.toNibble : Cond → Nibble
  | .f => 0x0
  | .lt => 0x1
  | .le => 0x2
  | .ule => 0x3
  | .ov => 0x4
  | .mi => 0x5
  | .eq => 0x6
  | .c => 0x7
  | .always => 0x8
  | .ge => 0x9
  | .gt => 0xA
  | .ugt => 0xB
  | .nov => 0xC
  | .pl => 0xD
  | .ne => 0xE
  | .nc => 0xF

/-- An opcode byte the source gives to no instruction (30_encoding.md R109). -/
def unassigned (b0 : Byte) : Reader := fun _ => .error (.unassignedOpcode b0)

/-- Formats F1 and F1r: no byte follows (30_encoding.md R91). -/
def f1 (i : Instr) : Reader := fun bs => .ok (i, bs)

/-- A format of two bytes: the operand byte (30_encoding.md R91, F2 and F2r). -/
def f2 (k : Byte → Instr) : Reader
  | b1 :: bs => .ok (k b1, bs)
  | [] => .error .truncated

/-- F2 and F2r with an R, IR, RR or IRR byte (30_encoding.md R91, R93). -/
def f2R (k : RegOp → Instr) : Reader := f2 fun b1 => k (RegOp.ofByte b1)

/-- F2n: two nibbles in one byte, the high one first (30_encoding.md R91). -/
def f2n (k : Nibble → Nibble → Instr) : Reader := f2 fun b1 => k (hiNib b1) (loNib b1)

/-- A format of three bytes: two operand bytes in order (30_encoding.md R91). -/
def f3 (k : Byte → Byte → Instr) : Reader
  | b1 :: b2 :: bs => .ok (k b1 b2, bs)
  | _ => .error .truncated

/-- F3s: the SOURCE byte comes first, then the destination; the instruction is written destination first (30_encoding.md R91). -/
def f3s (k : RegOp → RegOp → Instr) : Reader := f3 fun b1 b2 => k (RegOp.ofByte b2) (RegOp.ofByte b1)

/-- F3i: the destination byte, then the immediate (30_encoding.md R91). -/
def f3i (k : RegOp → Byte → Instr) : Reader := f3 fun b1 b2 => k (RegOp.ofByte b1) b2

/-- F3x: working register and index register in one byte, then the offset (30_encoding.md R91). -/
def f3x (k : Nibble → Nibble → Byte → Instr) : Reader := f3 fun b1 b2 => k (hiNib b1) (loNib b1) b2

/-- F3a: a 16-bit address, high byte first (30_encoding.md R91, R101). -/
def f3a (k : Word → Instr) : Reader := f3 fun b1 b2 => k (word16 b1 b2)

/-- Column 0H of the opcode map, by row (30_encoding.md R106). -/
def decodeCol0 (b0 : Byte) : Reader :=
  match (hiNib b0).toNat with
  | 0x0 => f2R .dec_R
  | 0x1 => f2R .rlc_R
  | 0x2 => f2R .inc_R
  | 0x3 => f2R .jp_IRR
  | 0x4 => f2R .da_R
  | 0x5 => f2R .pop_R
  | 0x6 => f2R .com_R
  | 0x7 => f2R .push_R
  | 0x8 => f2R .decw_RR
  | 0x9 => f2R .rl_R
  | 0xA => f2R .incw_RR
  | 0xB => f2R .clr_R
  | 0xC => f2R .rrc_R
  | 0xD => f2R .sra_R
  | 0xE => f2R .rr_R
  | 0xF => f2R .swap_R
  | _ => unassigned b0

/-- Column 1H of the opcode map, by row (30_encoding.md R106). -/
def decodeCol1 (b0 : Byte) : Reader :=
  match (hiNib b0).toNat with
  | 0x0 => f2R .dec_IR
  | 0x1 => f2R .rlc_IR
  | 0x2 => f2R .inc_IR
  | 0x3 => f2 .srp_IM
  | 0x4 => f2R .da_IR
  | 0x5 => f2R .pop_IR
  | 0x6 => f2R .com_IR
  | 0x7 => f2R .push_IR
  | 0x8 => f2R .decw_IR
  | 0x9 => f2R .rl_IR
  | 0xA => f2R .incw_IR
  | 0xB => f2R .clr_IR
  | 0xC => f2R .rrc_IR
  | 0xD => f2R .sra_IR
  | 0xE => f2R .rr_IR
  | 0xF => f2R .swap_IR
  | _ => unassigned b0

/-- Column 2H of the opcode map, by row (30_encoding.md R106). -/
def decodeCol2 (b0 : Byte) : Reader :=
  match (hiNib b0).toNat with
  | 0x0 => f2n .add_r_r
  | 0x1 => f2n .adc_r_r
  | 0x2 => f2n .sub_r_r
  | 0x3 => f2n .sbc_r_r
  | 0x4 => f2n .or_r_r
  | 0x5 => f2n .and_r_r
  | 0x6 => f2n .tcm_r_r
  | 0x7 => f2n .tm_r_r
  | 0x8 => f2n .lde_r_Irr
  | 0x9 => f2n fun n m => .lde_Irr_r m n
  | 0xA => f2n .cp_r_r
  | 0xB => f2n .xor_r_r
  | 0xC => f2n .ldc_r_Irr
  | 0xD => f2n fun n m => .ldc_Irr_r m n
  | _ => unassigned b0

/-- Column 3H of the opcode map, by row (30_encoding.md R106). -/
def decodeCol3 (b0 : Byte) : Reader :=
  match (hiNib b0).toNat with
  | 0x0 => f2n .add_r_Ir
  | 0x1 => f2n .adc_r_Ir
  | 0x2 => f2n .sub_r_Ir
  | 0x3 => f2n .sbc_r_Ir
  | 0x4 => f2n .or_r_Ir
  | 0x5 => f2n .and_r_Ir
  | 0x6 => f2n .tcm_r_Ir
  | 0x7 => f2n .tm_r_Ir
  | 0x8 => f2n .ldei_Ir_Irr
  | 0x9 => f2n fun n m => .ldei_Irr_Ir m n
  | 0xA => f2n .cp_r_Ir
  | 0xB => f2n .xor_r_Ir
  | 0xC => f2n .ldci_Ir_Irr
  | 0xD => f2n fun n m => .ldci_Irr_Ir m n
  | 0xE => f2n .ld_r_Ir
  | 0xF => f2n .ld_Ir_r
  | _ => unassigned b0

/-- Column 4H of the opcode map, by row (30_encoding.md R106). -/
def decodeCol4 (b0 : Byte) : Reader :=
  match (hiNib b0).toNat with
  | 0x0 => f3s .add_R_R
  | 0x1 => f3s .adc_R_R
  | 0x2 => f3s .sub_R_R
  | 0x3 => f3s .sbc_R_R
  | 0x4 => f3s .or_R_R
  | 0x5 => f3s .and_R_R
  | 0x6 => f3s .tcm_R_R
  | 0x7 => f3s .tm_R_R
  | 0xA => f3s .cp_R_R
  | 0xB => f3s .xor_R_R
  | 0xD => f2R .call_IRR
  | 0xE => f3s .ld_R_R
  | _ => unassigned b0

/-- Column 5H of the opcode map, by row (30_encoding.md R106). -/
def decodeCol5 (b0 : Byte) : Reader :=
  match (hiNib b0).toNat with
  | 0x0 => f3s .add_R_IR
  | 0x1 => f3s .adc_R_IR
  | 0x2 => f3s .sub_R_IR
  | 0x3 => f3s .sbc_R_IR
  | 0x4 => f3s .or_R_IR
  | 0x5 => f3s .and_R_IR
  | 0x6 => f3s .tcm_R_IR
  | 0x7 => f3s .tm_R_IR
  | 0xA => f3s .cp_R_IR
  | 0xB => f3s .xor_R_IR
  | 0xE => f3s .ld_R_IR
  | 0xF => f3s .ld_IR_R
  | _ => unassigned b0

/-- Column 6H of the opcode map, by row (30_encoding.md R106). -/
def decodeCol6 (b0 : Byte) : Reader :=
  match (hiNib b0).toNat with
  | 0x0 => f3i .add_R_IM
  | 0x1 => f3i .adc_R_IM
  | 0x2 => f3i .sub_R_IM
  | 0x3 => f3i .sbc_R_IM
  | 0x4 => f3i .or_R_IM
  | 0x5 => f3i .and_R_IM
  | 0x6 => f3i .tcm_R_IM
  | 0x7 => f3i .tm_R_IM
  | 0xA => f3i .cp_R_IM
  | 0xB => f3i .xor_R_IM
  | 0xD => f3a .call_DA
  | 0xE => f3i .ld_R_IM
  | _ => unassigned b0

/-- Column 7H of the opcode map, by row (30_encoding.md R106). -/
def decodeCol7 (b0 : Byte) : Reader :=
  match (hiNib b0).toNat with
  | 0x0 => f3i .add_IR_IM
  | 0x1 => f3i .adc_IR_IM
  | 0x2 => f3i .sub_IR_IM
  | 0x3 => f3i .sbc_IR_IM
  | 0x4 => f3i .or_IR_IM
  | 0x5 => f3i .and_IR_IM
  | 0x6 => f3i .tcm_IR_IM
  | 0x7 => f3i .tm_IR_IM
  | 0xA => f3i .cp_IR_IM
  | 0xB => f3i .xor_IR_IM
  | 0xC => f3x .ld_r_X
  | 0xD => f3x fun r x o => .ld_X_r x o r
  | 0xE => f3i .ld_IR_IM
  | _ => unassigned b0

/-- Column FH of the opcode map, by row (30_encoding.md R106). -/
def decodeColF (b0 : Byte) : Reader :=
  match (hiNib b0).toNat with
  | 0x4 => f1 .wdh
  | 0x5 => f1 .wdt
  | 0x6 => f1 .stop
  | 0x7 => f1 .halt
  | 0x8 => f1 .di
  | 0x9 => f1 .ei
  | 0xA => f1 .ret
  | 0xB => f1 .iret
  | 0xC => f1 .rcf
  | 0xD => f1 .scf
  | 0xE => f1 .ccf
  | 0xF => f1 .nop
  | _ => unassigned b0

/-- The whole opcode map (30_encoding.md R106): the columns 0H-7H and FH by row, the columns 8H-EH with the row as
operand (R104). -/
def reader (b0 : Byte) : Reader :=
  let hi := hiNib b0
  match (loNib b0).toNat with
  | 0x0 => decodeCol0 b0
  | 0x1 => decodeCol1 b0
  | 0x2 => decodeCol2 b0
  | 0x3 => decodeCol3 b0
  | 0x4 => decodeCol4 b0
  | 0x5 => decodeCol5 b0
  | 0x6 => decodeCol6 b0
  | 0x7 => decodeCol7 b0
  | 0x8 => f2R (.ld_r_R hi)
  | 0x9 => f2 fun b1 => .ld_R_r b1 hi
  | 0xA => f2 (.djnz_r_RA hi)
  | 0xB => f2 (.jr_cc_RA (Cond.ofNibble hi))
  | 0xC => f2 (.ld_r_IM hi)
  | 0xD => f3a (.jp_cc_DA (Cond.ofNibble hi))
  | 0xE => f1 (.inc_r hi)
  | 0xF => decodeColF b0
  | _ => unassigned b0

/-- The instruction at the head of `bs`, and the bytes after it. -/
def decode : List Byte → Except Reject (Instr × List Byte)
  | [] => .error .truncated
  | b0 :: bs => reader b0 bs

/-- The length in bytes of the instruction whose first byte is `b0` (30_encoding.md R107). -/
def opLength (b0 : Byte) : Nat :=
  let lo := (loNib b0).toNat
  if lo = 0xE ∨ lo = 0xF then 1
  else if lo = 0xD then 3
  else if 4 ≤ lo ∧ lo ≤ 7 ∧ b0 ≠ 0xD4 then 3
  else 2

/-- The bytes of an instruction, the opcode byte first (30_encoding.md R91, R102 to R105). -/
def encode : Instr → List Byte
  | .add_r_r dst src => [0x02, nibbles dst src]
  | .add_r_Ir dst src => [0x03, nibbles dst src]
  | .add_R_R dst src => [0x04, src.toByte, dst.toByte]
  | .add_R_IR dst src => [0x05, src.toByte, dst.toByte]
  | .add_R_IM dst src => [0x06, dst.toByte, src]
  | .add_IR_IM dst src => [0x07, dst.toByte, src]
  | .adc_r_r dst src => [0x12, nibbles dst src]
  | .adc_r_Ir dst src => [0x13, nibbles dst src]
  | .adc_R_R dst src => [0x14, src.toByte, dst.toByte]
  | .adc_R_IR dst src => [0x15, src.toByte, dst.toByte]
  | .adc_R_IM dst src => [0x16, dst.toByte, src]
  | .adc_IR_IM dst src => [0x17, dst.toByte, src]
  | .sub_r_r dst src => [0x22, nibbles dst src]
  | .sub_r_Ir dst src => [0x23, nibbles dst src]
  | .sub_R_R dst src => [0x24, src.toByte, dst.toByte]
  | .sub_R_IR dst src => [0x25, src.toByte, dst.toByte]
  | .sub_R_IM dst src => [0x26, dst.toByte, src]
  | .sub_IR_IM dst src => [0x27, dst.toByte, src]
  | .sbc_r_r dst src => [0x32, nibbles dst src]
  | .sbc_r_Ir dst src => [0x33, nibbles dst src]
  | .sbc_R_R dst src => [0x34, src.toByte, dst.toByte]
  | .sbc_R_IR dst src => [0x35, src.toByte, dst.toByte]
  | .sbc_R_IM dst src => [0x36, dst.toByte, src]
  | .sbc_IR_IM dst src => [0x37, dst.toByte, src]
  | .or_r_r dst src => [0x42, nibbles dst src]
  | .or_r_Ir dst src => [0x43, nibbles dst src]
  | .or_R_R dst src => [0x44, src.toByte, dst.toByte]
  | .or_R_IR dst src => [0x45, src.toByte, dst.toByte]
  | .or_R_IM dst src => [0x46, dst.toByte, src]
  | .or_IR_IM dst src => [0x47, dst.toByte, src]
  | .and_r_r dst src => [0x52, nibbles dst src]
  | .and_r_Ir dst src => [0x53, nibbles dst src]
  | .and_R_R dst src => [0x54, src.toByte, dst.toByte]
  | .and_R_IR dst src => [0x55, src.toByte, dst.toByte]
  | .and_R_IM dst src => [0x56, dst.toByte, src]
  | .and_IR_IM dst src => [0x57, dst.toByte, src]
  | .tcm_r_r dst src => [0x62, nibbles dst src]
  | .tcm_r_Ir dst src => [0x63, nibbles dst src]
  | .tcm_R_R dst src => [0x64, src.toByte, dst.toByte]
  | .tcm_R_IR dst src => [0x65, src.toByte, dst.toByte]
  | .tcm_R_IM dst src => [0x66, dst.toByte, src]
  | .tcm_IR_IM dst src => [0x67, dst.toByte, src]
  | .tm_r_r dst src => [0x72, nibbles dst src]
  | .tm_r_Ir dst src => [0x73, nibbles dst src]
  | .tm_R_R dst src => [0x74, src.toByte, dst.toByte]
  | .tm_R_IR dst src => [0x75, src.toByte, dst.toByte]
  | .tm_R_IM dst src => [0x76, dst.toByte, src]
  | .tm_IR_IM dst src => [0x77, dst.toByte, src]
  | .cp_r_r dst src => [0xA2, nibbles dst src]
  | .cp_r_Ir dst src => [0xA3, nibbles dst src]
  | .cp_R_R dst src => [0xA4, src.toByte, dst.toByte]
  | .cp_R_IR dst src => [0xA5, src.toByte, dst.toByte]
  | .cp_R_IM dst src => [0xA6, dst.toByte, src]
  | .cp_IR_IM dst src => [0xA7, dst.toByte, src]
  | .xor_r_r dst src => [0xB2, nibbles dst src]
  | .xor_r_Ir dst src => [0xB3, nibbles dst src]
  | .xor_R_R dst src => [0xB4, src.toByte, dst.toByte]
  | .xor_R_IR dst src => [0xB5, src.toByte, dst.toByte]
  | .xor_R_IM dst src => [0xB6, dst.toByte, src]
  | .xor_IR_IM dst src => [0xB7, dst.toByte, src]
  | .dec_R dst => [0x00, dst.toByte]
  | .dec_IR dst => [0x01, dst.toByte]
  | .rlc_R dst => [0x10, dst.toByte]
  | .rlc_IR dst => [0x11, dst.toByte]
  | .inc_R dst => [0x20, dst.toByte]
  | .inc_IR dst => [0x21, dst.toByte]
  | .da_R dst => [0x40, dst.toByte]
  | .da_IR dst => [0x41, dst.toByte]
  | .pop_R dst => [0x50, dst.toByte]
  | .pop_IR dst => [0x51, dst.toByte]
  | .com_R dst => [0x60, dst.toByte]
  | .com_IR dst => [0x61, dst.toByte]
  | .push_R src => [0x70, src.toByte]
  | .push_IR src => [0x71, src.toByte]
  | .decw_RR dst => [0x80, dst.toByte]
  | .decw_IR dst => [0x81, dst.toByte]
  | .rl_R dst => [0x90, dst.toByte]
  | .rl_IR dst => [0x91, dst.toByte]
  | .incw_RR dst => [0xA0, dst.toByte]
  | .incw_IR dst => [0xA1, dst.toByte]
  | .clr_R dst => [0xB0, dst.toByte]
  | .clr_IR dst => [0xB1, dst.toByte]
  | .rrc_R dst => [0xC0, dst.toByte]
  | .rrc_IR dst => [0xC1, dst.toByte]
  | .sra_R dst => [0xD0, dst.toByte]
  | .sra_IR dst => [0xD1, dst.toByte]
  | .rr_R dst => [0xE0, dst.toByte]
  | .rr_IR dst => [0xE1, dst.toByte]
  | .swap_R dst => [0xF0, dst.toByte]
  | .swap_IR dst => [0xF1, dst.toByte]
  | .jp_IRR dst => [0x30, dst.toByte]
  | .srp_IM src => [0x31, src]
  | .call_IRR dst => [0xD4, dst.toByte]
  | .call_DA dst => [0xD6, hiByte dst, loByte dst]
  | .ldc_r_Irr dst src => [0xC2, nibbles dst src]
  | .ldc_Irr_r dst src => [0xD2, nibbles src dst]
  | .ldci_Ir_Irr dst src => [0xC3, nibbles dst src]
  | .ldci_Irr_Ir dst src => [0xD3, nibbles src dst]
  | .lde_r_Irr dst src => [0x82, nibbles dst src]
  | .lde_Irr_r dst src => [0x92, nibbles src dst]
  | .ldei_Ir_Irr dst src => [0x83, nibbles dst src]
  | .ldei_Irr_Ir dst src => [0x93, nibbles src dst]
  | .ld_r_Ir dst src => [0xE3, nibbles dst src]
  | .ld_Ir_r dst src => [0xF3, nibbles dst src]
  | .ld_R_R dst src => [0xE4, src.toByte, dst.toByte]
  | .ld_R_IR dst src => [0xE5, src.toByte, dst.toByte]
  | .ld_R_IM dst src => [0xE6, dst.toByte, src]
  | .ld_IR_IM dst src => [0xE7, dst.toByte, src]
  | .ld_IR_R dst src => [0xF5, src.toByte, dst.toByte]
  | .ld_r_X dst index offset => [0xC7, nibbles dst index, offset]
  | .ld_X_r index offset src => [0xD7, nibbles src index, offset]
  | .ld_r_R dst src => [nibbles dst 0x8, src.toByte]
  | .ld_R_r dst src => [nibbles src 0x9, dst]
  | .djnz_r_RA r dst => [nibbles r 0xA, dst]
  | .jr_cc_RA cc dst => [nibbles cc.toNibble 0xB, dst]
  | .ld_r_IM dst src => [nibbles dst 0xC, src]
  | .jp_cc_DA cc dst => [nibbles cc.toNibble 0xD, hiByte dst, loByte dst]
  | .inc_r dst => [nibbles dst 0xE]
  | .wdh => [0x4F]
  | .wdt => [0x5F]
  | .stop => [0x6F]
  | .halt => [0x7F]
  | .di => [0x8F]
  | .ei => [0x9F]
  | .ret => [0xAF]
  | .iret => [0xBF]
  | .rcf => [0xCF]
  | .scf => [0xDF]
  | .ccf => [0xEF]
  | .nop => [0xFF]

/-- The opcode byte of an instruction. -/
def opcodeByte (i : Instr) : Byte := (encode i).headD 0

/-- The bytes of the table word `w` of `nbits` bits, first byte lowest; every bit above `nbits` is 0. -/
def tableBytes (nbits w : Nat) : List Byte :=
  let v := w % 2 ^ nbits
  [BitVec.ofNat 8 v, BitVec.ofNat 8 (v / 256), BitVec.ofNat 8 (v / 65536)]

/-- The instruction the decoder reads from the bytes of the table word `w` (the host's fixed name). -/
def decodeTableWord (nbits w : Nat) : Option Instr :=
  match decode (tableBytes nbits w) with
  | .ok (i, _) => some i
  | .error _ => none

end Sys2Proof
end

