-- ==== Sys2Proof/Config.lean ====
section
/-! DEFINITION. What a particular Z8 part fixes (the implementation parameters of spec/00_scope.md R4, plain data) and
the free values: opaque constants nothing can evaluate, for everything the spec leaves to "any value". -/

namespace Sys2Proof

/-- An inclusive range of 16-bit addresses. -/
structure AddrRange where
  first : Word
  last : Word
  deriving DecidableEq, Repr

/-- Is `a` in the range? -/
def AddrRange.holds (r : AddrRange) (a : Word) : Bool := r.first.toNat ≤ a.toNat && a.toNat ≤ r.last.toNat

/-- The six status flags (10_state.md R33). -/
inductive Flag where
  /-- carry -/
  | c
  /-- zero -/
  | z
  /-- sign -/
  | s
  /-- overflow -/
  | v
  /-- decimal adjust -/
  | d
  /-- half carry -/
  | h
  deriving DecidableEq, Repr

/-- P_FLAG_BITS: the bit of register FCH that holds each flag (10_state.md R33). -/
structure FlagBits where
  c : Fin 8
  z : Fin 8
  s : Fin 8
  v : Fin 8
  d : Fin 8
  h : Fin 8
  deriving DecidableEq, Repr

/-- A predicate on C, Z, S and V as data: an entry of the table of conditions (30_encoding.md R108). -/
inductive FlagExpr where
  | never
  | c
  | z
  | s
  | v
  | not (e : FlagExpr)
  | or (a b : FlagExpr)
  | xor (a b : FlagExpr)
  deriving DecidableEq, Repr

/-- P_CC: the sixteen conditions, 0H to FH in order (30_encoding.md R108); a field bears its condition's usual name. -/
structure CondTable where
  f : FlagExpr
  lt : FlagExpr
  le : FlagExpr
  ule : FlagExpr
  ov : FlagExpr
  mi : FlagExpr
  eq : FlagExpr
  c : FlagExpr
  always : FlagExpr
  ge : FlagExpr
  gt : FlagExpr
  ugt : FlagExpr
  nov : FlagExpr
  pl : FlagExpr
  ne : FlagExpr
  nc : FlagExpr
  deriving DecidableEq, Repr

/-- One particular Z8 part: the parameters of 00_scope.md R4. They are configuration: no step changes them (log 1). -/
structure Chip where
  /-- The complement of P_REG_IMPL: the addresses of bank 0 the part does not implement (10_state.md R23). -/
  absentRegs : List Byte
  /-- P_BANK_IMPL: the (bank, register) pairs of the expanded banks the part implements (10_state.md R22, R23). -/
  bankImpl : List (Nibble × Nibble)
  /-- P_EXT_PROG: LDC and LDCI may write program memory (20_memory.md R78). -/
  extProg : Bool
  /-- The complement of P_PROG_WRITABLE: the program bytes no store form of LDC or LDCI changes (20_memory.md R78). -/
  progReadOnly : List AddrRange
  /-- The program addresses the part cannot reach with LDC and LDCI, either form (43_load.md R210; log 19). -/
  progUnreached : List AddrRange
  /-- P_EXT_DATA: the part addresses external data memory (20_memory.md R78). -/
  extData : Bool
  /-- P_STACK_EXTERNAL: the stack is in external data memory (10_state.md R31). -/
  stackExternal : Bool
  /-- P_WDT: opcodes 4FH and 5FH are WDH and WDT (45_cpu_control.md R259, R260). -/
  wdt : Bool
  /-- P_WDT_TIMEOUT: the terminal count, in ticks of the Watch-Dog's clock (60_exceptions.md R294; log 13). -/
  wdtTimeout : Nat
  /-- P_WDT_IN_STOP: the Watch-Dog counts in STOP mode (60_exceptions.md R293). -/
  wdtInStop : Bool
  /-- P_VECTOR: entry n is the program address of the vector of source n.
  The list's length is P_NIRQ (60_exceptions.md R281, R288). -/
  vectors : List Word
  /-- P_IRQ_PRIORITY: sources in falling priority, a source not listed having no order with any other; the empty list is
  the spec's OPEN, any one (60_exceptions.md R287; log 15). -/
  irqPriority : List Nat
  /-- P_FLAG_BITS (10_state.md R33; log 2). -/
  flagBits : FlagBits
  /-- P_CC (30_encoding.md R108; log 3). -/
  cond : CondTable
  deriving DecidableEq, Repr

/-- Which read of an instruction a free value answers: two reads of one instruction are two draws (00_scope.md R10). -/
inductive ReadSlot where
  /-- the pointer register of a destination -/
  | dstPtr
  /-- the destination's old value -/
  | dst
  /-- the pointer or index register of a source -/
  | srcPtr
  /-- the source's value -/
  | src
  /-- the high byte of a register pair -/
  | pairHi
  /-- the low byte of a register pair -/
  | pairLo
  /-- the bytes an instruction takes from the stack, in order -/
  | stack0
  | stack1
  | stack2
  deriving DecidableEq, Repr

namespace Config

/-- Free value: what the oracle answers at time `time` to read `slot` of device register `a`
(ports 00H-03H, control registers F0H-FAH; 20_memory.md R69; log 11). -/
opaque deviceByte (time : Nat) (slot : ReadSlot) (a : Byte) : Byte

/-- Free value: a flag left undefined by the instruction executed at time `time` (00_scope.md R10; log 10). -/
opaque freeFlag (time : Nat) (f : Flag) : Bool

/-- Free value: which of several requests that may be taken wakes a halted CPU (60_exceptions.md R287, R297; log 15). -/
opaque irqChoice (time : Nat) : Nat

/-- Free value: register number `i` after the RESET event at time `time` (10_state.md R50; log 12). -/
opaque resetByte (time i : Nat) : Byte

/-- Free value: the contents of external data memory after the RESET event at time `time` (10_state.md R50; log 12). -/
opaque resetData (time : Nat) : List Host.Cell

end Config

end Sys2Proof
end

