-- ==== Sys2Proof/Machine/Part.lean ====
section
/-! DEFINITION. The part's parameters read as the rules use them, their defaults, and the part of State.reset
(spec/00_scope.md R4; spec/10_state.md R33; spec/30_encoding.md R108; spec/60_exceptions.md R281, R287, R288). -/

namespace Sys2Proof

/-- Where the layout puts a flag (10_state.md R33). -/
def FlagBits.at (l : FlagBits) : Flag → Fin 8
  | .c => l.c
  | .z => l.z
  | .s => l.s
  | .v => l.v
  | .d => l.d
  | .h => l.h

/-- A flag, read from the byte of FCH by the layout `l` (10_state.md R33). -/
def flag (l : FlagBits) (x : Flag) (f : Byte) : Bool := f.getLsbD (l.at x)

/-- No two flags share a bit: each is a bit of its own (10_state.md R33). -/
def FlagBits.wf (l : FlagBits) : Bool := decide ([l.c, l.z, l.s, l.v, l.d, l.h].Pairwise (· ≠ ·))

/-- PRESUMED, unsafe (log 2): the default of P_FLAG_BITS. Bits 1 and 0 are the two user flags (10_state.md R33). -/
def FlagBits.standard : FlagBits where
  c := 7
  z := 6
  s := 5
  v := 4
  d := 3
  h := 2

/-- The three entries the source shows: 5 is S, 7 is C, 8 is always (30_encoding.md R108). -/
def CondTable.wf (t : CondTable) : Bool := t.mi == .s && t.c == .c && t.always == .not .never

/-- The default of P_CC; all but the three entries of the source PRESUMED, unsafe (30_encoding.md R108; log 3). -/
def CondTable.standard : CondTable where
  f := .never
  lt := .xor .s .v
  le := .or .z (.xor .s .v)
  ule := .or .c .z
  ov := .v
  mi := .s
  eq := .z
  c := .c
  always := .not .never
  ge := .not (.xor .s .v)
  gt := .not (.or .z (.xor .s .v))
  ugt := .not (.or .c .z)
  nov := .not .v
  pl := .not .s
  ne := .not .z
  nc := .not .c

/-- The predicate holds of the flags in `f` (30_encoding.md R108). -/
def FlagExpr.holds (l : FlagBits) (f : Byte) : FlagExpr → Bool
  | .never => false
  | .c => flag l .c f
  | .z => flag l .z f
  | .s => flag l .s f
  | .v => flag l .v f
  | .not e => !e.holds l f
  | .or a b => a.holds l f || b.holds l f
  | .xor a b => a.holds l f ^^ b.holds l f

/-- The entry of the table for a condition (30_encoding.md R108). -/
def CondTable.entry (t : CondTable) : Cond → FlagExpr
  | .f => t.f
  | .lt => t.lt
  | .le => t.le
  | .ule => t.ule
  | .ov => t.ov
  | .mi => t.mi
  | .eq => t.eq
  | .c => t.c
  | .always => t.always
  | .ge => t.ge
  | .gt => t.gt
  | .ugt => t.ugt
  | .nov => t.nov
  | .pl => t.pl
  | .ne => t.ne
  | .nc => t.nc

/-- P_NIRQ, the number of interrupt sources (60_exceptions.md R281). -/
def Chip.nIrq (c : Chip) : Nat := c.vectors.length

/-- P_VECTOR(n) (60_exceptions.md R288). -/
def Chip.vector (c : Chip) (n : Nat) : Word := c.vectors.getD n 0

/-- P_IRQ_PRIORITY puts source `m` before source `n` (60_exceptions.md R287; log 15). -/
def Chip.before (c : Chip) (m n : Nat) : Bool :=
  c.irqPriority.contains n && decide (c.irqPriority.idxOf m < c.irqPriority.idxOf n)

/-- A part the spec admits: the five named control registers exist (10_state.md R21, R37), there are at least four
interrupt sources and no more than IMR has enable bits for (60_exceptions.md R281, R282), each flag has a bit of its own
(10_state.md R33), and the conditions the source shows are the table's (30_encoding.md R108). -/
def Chip.wf (c : Chip) : Bool :=
  !c.absentRegs.contains 0xFB && !c.absentRegs.contains 0xFC && !c.absentRegs.contains 0xFD &&
  !c.absentRegs.contains 0xFE && !c.absentRegs.contains 0xFF && decide (4 ≤ c.nIrq) && decide (c.nIrq ≤ 7) &&
  c.flagBits.wf && c.cond.wf

/-- DESIGN CHOICE, unsafe (log 1): the part State.reset has. Every instruction can run on it: all of bank 0 implemented
and no expanded bank (the defaults of 00_scope.md R4), external program and data memory, an internal stack, a Watch-Dog
whose every tick may time out, six sources with the vectors of 60_exceptions.md R288 (PRESUMED, log 6) and no order among
them, the default flag layout and conditions (PRESUMED, log 2, log 3). -/
def Chip.full : Chip where
  absentRegs := []
  bankImpl := []
  extProg := true
  progReadOnly := []
  progUnreached := []
  extData := true
  stackExternal := false
  wdt := true
  wdtTimeout := 1
  wdtInStop := false
  vectors := [0x0000, 0x0002, 0x0004, 0x0006, 0x0008, 0x000A]
  irqPriority := []
  flagBits := .standard
  cond := .standard

end Sys2Proof
end

