-- ==== Sys2Proof/Machine/State.lean ====
section
/-! DEFINITION. The machine's state as plain data, the reasons a step can stop, and the state right after reset
(spec/10_state.md R20 to R50). -/

namespace Sys2Proof.Machine

/-- A memory of bytes in one canonical form: (address, byte) pairs with strictly rising addresses, none equal to what an
unlisted address reads as (Machine/Memory.lean). -/
abbrev Mem := List Host.Cell

/-- Run state (10_state.md R41). -/
inductive RunState where
  /-- executes instructions -/
  | run
  /-- entered by HALT, left by an accepted interrupt or by reset (60_exceptions.md R297) -/
  | halt
  /-- entered by STOP, left only by reset (60_exceptions.md R298) -/
  | stop
  deriving DecidableEq, Repr

/-- What an agent outside the CPU does at an instruction boundary (00_scope.md R12; log 9). -/
inductive EnvEvent where
  /-- the device of source `n` raises its request: the pending bit is set (60_exceptions.md R283) -/
  | request (n : Nat)
  /-- the interrupt agent takes request `n`, where it may (60_exceptions.md R284, R285) -/
  | accept (n : Nat)
  /-- one tick of the Watch-Dog's clock (60_exceptions.md R293; log 13) -/
  | wdtTick
  /-- an external RESET (70_reset_and_hazards.md R310) -/
  | reset
  deriving DecidableEq, Repr

/-- One turn of the schedule: the CPU's, or one event of the environment. -/
inductive Input where
  | cpu
  | env (e : EnvEvent)
  deriving DecidableEq, Repr

/-- The state of the machine. Ports 00H-03H and control registers F0H-FAH hold nothing here: reads are answered by
`Config.deviceByte`, writes are recorded in `deviceWrites` (20_memory.md R69). -/
structure State where
  /-- the part: configuration, never changed by a step (00_scope.md R4, R12; log 1) -/
  chip : Chip
  /-- general-purpose registers 04H-EFH, entry `i` at address `i + 4` (10_state.md R21) -/
  gpr : Vector Byte 236
  /-- expanded banks: register `r` of bank `b` is entry `(b - 1) * 16 + r` (10_state.md R22) -/
  banks : Vector Byte 240
  /-- Interrupt Mask Register, FBH (10_state.md R35) -/
  imr : Byte
  /-- Flag Register, FCH (10_state.md R33) -/
  flags : Byte
  /-- Register Pointer, FDH (10_state.md R25) -/
  rp : Byte
  /-- stack pointer high, FEH (10_state.md R30) -/
  sph : Byte
  /-- stack pointer low, FFH (10_state.md R30) -/
  spl : Byte
  /-- program counter (10_state.md R28) -/
  pc : Word
  /-- program memory (10_state.md R39) -/
  prog : Mem
  /-- external data memory (10_state.md R40) -/
  data : Mem
  /-- run state (10_state.md R41) -/
  runState : RunState
  /-- the Watch-Dog has been enabled by WDT (10_state.md R42) -/
  wdtEnabled : Bool
  /-- the Watch-Dog counts in HALT mode, by WDH (10_state.md R42) -/
  wdtInHalt : Bool
  /-- ticks counted since the last WDT (10_state.md R42, 60_exceptions.md R293; log 13) -/
  wdtCount : Nat
  /-- pending request of source n in bit n (10_state.md R44, 60_exceptions.md R283) -/
  pending : Byte
  /-- the instruction executed immediately before was NOP (10_state.md R45) -/
  prevNop : Bool
  /-- event history: every write to a port or to F0H-FAH, oldest first (20_memory.md R69) -/
  deviceWrites : List (Byte × Byte)
  /-- MODEL: index of the free values (log 10) -/
  time : Nat
  /-- MODEL: the schedule of the environment, first turn first; when it is used up the CPU runs (log 9) -/
  inputs : List Input
  deriving DecidableEq, Repr

/-- Why the MODEL has no next state: the list of 60_exceptions.md R280, none of them an event of the hardware.
All are safe: the model stops where the hardware does something the source does not give. -/
inductive Fault where
  /-- raised by step on an unassigned opcode (30_encoding.md R109), and by WDH and WDT on a part without a Watch-Dog; safe -/
  | unassignedOpcode
  /-- raised by LD R,r (r9H) when the destination byte is E0H-EFH (30_encoding.md R110); safe -/
  | escapeInR9
  /-- raised when a register-pair operand is odd (30_encoding.md R111); safe -/
  | oddRegisterPair
  /-- raised by any access to a register the part does not implement (10_state.md R23, R24); safe -/
  | unimplementedRegister
  /-- raised when an instruction's destination is a register it also writes implicitly (10_state.md R38); safe -/
  | implicitExplicitClash
  /-- raised by an access to external memory the part cannot perform (20_memory.md R78); safe -/
  | notOnThisPart
  /-- raised by LDC and LDCI storing into the three bytes that follow (20_memory.md R76); safe -/
  | storeIntoPipeline
  /-- raised by DA outside its table (40_arithmetic.md R135); safe -/
  | daUndefined
  /-- raised by DJNZ on a port or control register (44_control_transfer.md R231); safe -/
  | djnzOnNonGeneralRegister
  /-- raised by HALT not immediately preceded by NOP (45_cpu_control.md R253); safe -/
  | haltWithoutNop
  /-- raised by STOP not immediately preceded by NOP (45_cpu_control.md R258); safe -/
  | stopWithoutNop
  deriving DecidableEq, Repr

/-- Why an instruction has no meaning in the model. -/
inductive Refusal where
  /-- raised by exec alone, on an instruction not modelled yet: no instruction is; safe -/
  | notModelled (mnemonic : String)
  deriving DecidableEq, Repr

/-- The machine right after reset (10_state.md R50). `pc` = 000CH, RUN, the Watch-Dog off and `prevNop` false are the
spec's; every other value is the model's own (log 7, log 8, unsafe). -/
def State.reset : State where
  chip := Chip.full
  gpr := Vector.replicate 236 0
  banks := Vector.replicate 240 0
  imr := 0x00
  flags := 0x00
  rp := 0x00
  sph := 0x00
  spl := 0x00
  pc := 0x000C
  prog := []
  data := []
  runState := .run
  wdtEnabled := false
  wdtInHalt := false
  wdtCount := 0
  pending := 0x00
  prevNop := false
  deviceWrites := []
  time := 0
  inputs := []

end Sys2Proof.Machine
end

