-- ==== Sys2Proof/Machine/Memory.lean ====
section
/-! DEFINITION. The byte memories: one canonical form, one read and one write (spec/20_memory.md R60, R68). -/

namespace Sys2Proof.Machine

/-- DESIGN CHOICE, unsafe (log 8): what an address nothing has written reads as. -/
def memBlank : Byte := 0x00

/-- The byte at address `a`. -/
def memRead : Mem → Nat → Byte
  | [], _ => memBlank
  | (k, v) :: m, a => if a = k then v else memRead m a

/-- `m` with the entry at `a` taken out. -/
def memErase : Mem → Nat → Mem
  | [], _ => []
  | (k, v) :: m, a => if a = k then m else (k, v) :: memErase m a

/-- `m` with the entry `(a, v)` in its place. -/
def memInsert : Mem → Nat → Byte → Mem
  | [], a, v => [(a, v)]
  | (k, w) :: m, a, v =>
    if a < k then (a, v) :: (k, w) :: m
    else if a = k then (a, v) :: m
    else (k, w) :: memInsert m a v

/-- The memory after `v` is written at `a`: writing what an unlisted address reads as removes the entry. -/
def memWrite (m : Mem) (a : Nat) (v : Byte) : Mem := if v = memBlank then memErase m a else memInsert m a v

/-- The entries of `m` rise strictly from `lo`, lie below 65536 and differ from `memBlank`. -/
def memSorted (lo : Nat) : Mem → Bool
  | [] => true
  | (k, v) :: m => decide (lo ≤ k) && decide (k < 65536) && (v != memBlank) && memSorted (k + 1) m

/-- The canonical form. -/
def memWf (m : Mem) : Bool := memSorted 0 m

/-- The canonical memory that holds the listed bytes, an earlier cell over a later one; addresses are taken mod 65536. -/
def memOfCells : List Host.Cell → Mem
  | [] => []
  | (a, v) :: cs => memWrite (memOfCells cs) (a % 65536) v

end Sys2Proof.Machine
end

