-- ==== Sys2Proof/Machine/Flags.lean ====
section
/-! DEFINITION. The flag register and every flag computation of the spec (spec/10_state.md R33, R34;
spec/40_arithmetic.md R130, R131, R135; spec/41_logical.md R160; spec/42_rotate_shift.md R180). -/

namespace Sys2Proof.Machine

/-- A flag of the machine (10_state.md R33). -/
def State.flag (s : State) (x : Flag) : Bool := Sys2Proof.flag s.chip.flagBits x s.flags

/-- What an instruction does to the flags: `none` leaves a flag as it is (10_state.md R34). -/
structure FlagUpd where
  c : Option Bool := none
  z : Option Bool := none
  s : Option Bool := none
  v : Option Bool := none
  d : Option Bool := none
  h : Option Bool := none
  deriving DecidableEq, Repr

/-- What the update does to one flag. -/
def FlagUpd.at (u : FlagUpd) : Flag → Option Bool
  | .c => u.c
  | .z => u.z
  | .s => u.s
  | .v => u.v
  | .d => u.d
  | .h => u.h

/-- `b` with bit `i` written, or left alone. -/
def setBitIf (b : Byte) (i : Nat) : Option Bool → Byte
  | none => b
  | some v => setBit b i v

/-- The flag register after the update, under the layout `l`; the two bits that are no flag stay (10_state.md R33). -/
def applyFlags (l : FlagBits) (f : Byte) (u : FlagUpd) : Byte :=
  setBitIf (setBitIf (setBitIf (setBitIf (setBitIf (setBitIf f l.c u.c) l.z u.z) l.s u.s) l.v u.v) l.d u.d) l.h u.h

/-- The machine's flags change by `u` and nothing else does (10_state.md R33, R34). -/
def State.withFlags (s : State) (u : FlagUpd) : State := { s with flags := applyFlags s.chip.flagBits s.flags u }

/-- AddCore (40_arithmetic.md R130): the sum and its six flags. -/
def addCore (d s : Byte) (cin : Bool) : Byte × FlagUpd :=
  let t := d.toNat + s.toNat + cin.toNat
  let r : Byte := BitVec.ofNat 8 t
  (r, { c := some (decide (t > 255))
        z := some (r == 0)
        s := some r.msb
        v := some (d.msb == s.msb && r.msb != d.msb)
        d := some false
        h := some (decide (d.toNat % 16 + s.toNat % 16 + cin.toNat > 15)) })

/-- SubCore with writeDH (40_arithmetic.md R131): the difference and its six flags. -/
def subCore (d s : Byte) (bin : Bool) : Byte × FlagUpd :=
  let t : Int := (d.toNat : Int) - (s.toNat : Int) - (bin.toNat : Int)
  let r : Byte := BitVec.ofInt 8 t
  (r, { c := some (decide (t < 0))
        z := some (r == 0)
        s := some r.msb
        v := some (d.msb != s.msb && r.msb == s.msb)
        d := some true
        h := some (decide ((d.toNat % 16 : Int) - (s.toNat % 16 : Int) - (bin.toNat : Int) < 0)) })

/-- SubCore without writeDH, for CP (40_arithmetic.md R131, R134): D and H are left as they are. -/
def cpCore (d s : Byte) : Byte × FlagUpd :=
  let r := subCore d s false
  (r.1, { r.2 with d := none, h := none })

/-- LogicFlags (41_logical.md R160). -/
def logicFlags (r : Byte) : FlagUpd := { z := some (r == 0), s := some r.msb, v := some false }

/-- RotFlags (42_rotate_shift.md R180): old byte, new byte, the bit that left. -/
def rotFlags (d r : Byte) (out : Bool) : FlagUpd :=
  { c := some out, z := some (r == 0), s := some r.msb, v := some (r.msb != d.msb) }

/-- INC (40_arithmetic.md R138). -/
def incCore (d : Byte) : Byte × FlagUpd :=
  let r := d + 1
  (r, { z := some (r == 0), s := some r.msb, v := some (d == 0x7F) })

/-- DEC (40_arithmetic.md R136). -/
def decCore (d : Byte) : Byte × FlagUpd :=
  let r := d - 1
  (r, { z := some (r == 0), s := some r.msb, v := some (d == 0x80) })

/-- INCW (40_arithmetic.md R139): Z, S and V are those of the 16-bit result. -/
def incwCore (w : Word) : Word × FlagUpd :=
  let r := w + 1
  (r, { z := some (r == 0), s := some r.msb, v := some (w == 0x7FFF) })

/-- DECW (40_arithmetic.md R137): Z, S and V are those of the 16-bit result. -/
def decwCore (w : Word) : Word × FlagUpd :=
  let r := w - 1
  (r, { z := some (r == 0), s := some r.msb, v := some (w == 0x8000) })

/-- RL (42_rotate_shift.md R181). -/
def rlCore (d : Byte) (_c : Bool) : Byte × FlagUpd :=
  let r : Byte := d.extractLsb' 0 7 ++ d.extractLsb' 7 1
  (r, rotFlags d r (d.getLsbD 7))

/-- RLC (42_rotate_shift.md R182): the old carry enters bit 0. -/
def rlcCore (d : Byte) (c : Bool) : Byte × FlagUpd :=
  let r : Byte := d.extractLsb' 0 7 ++ BitVec.ofBool c
  (r, rotFlags d r (d.getLsbD 7))

/-- RR (42_rotate_shift.md R183). -/
def rrCore (d : Byte) (_c : Bool) : Byte × FlagUpd :=
  let r : Byte := d.extractLsb' 0 1 ++ d.extractLsb' 1 7
  (r, rotFlags d r (d.getLsbD 0))

/-- RRC (42_rotate_shift.md R184): the old carry enters bit 7. -/
def rrcCore (d : Byte) (c : Bool) : Byte × FlagUpd :=
  let r : Byte := BitVec.ofBool c ++ d.extractLsb' 1 7
  (r, rotFlags d r (d.getLsbD 0))

/-- SRA (42_rotate_shift.md R185): bit 7 stays and is copied into bit 6; V is cleared. -/
def sraCore (d : Byte) (_c : Bool) : Byte × FlagUpd :=
  let r : Byte := d.extractLsb' 7 1 ++ d.extractLsb' 1 7
  (r, { c := some (d.getLsbD 0), z := some (r == 0), s := some r.msb, v := some false })

/-- SWAP (42_rotate_shift.md R186): `v` is the undefined overflow flag, a free value. -/
def swapCore (d : Byte) (v : Bool) : Byte × FlagUpd :=
  let r : Byte := nibbles (loNib d) (hiNib d)
  (r, { z := some (r == 0), s := some r.msb, v := some v })

/-- One row of the table of DA (40_arithmetic.md R135). -/
structure DaRow where
  /-- after SUB or SBC (the D flag), not after ADD or ADC -/
  sub : Bool
  /-- C before -/
  c : Bool
  /-- bits 7-4, first and last -/
  hiFirst : Nat
  hiLast : Nat
  /-- H before -/
  h : Bool
  /-- bits 3-0, first and last -/
  loFirst : Nat
  loLast : Nat
  /-- number added -/
  added : Byte
  /-- C after -/
  cAfter : Bool
  deriving DecidableEq, Repr

/-- The table of DA, row by row (40_arithmetic.md R135). -/
def daTable : List DaRow :=
  [ ⟨false, false, 0x0, 0x9, false, 0x0, 0x9, 0x00, false⟩,
    ⟨false, false, 0x0, 0x8, false, 0xA, 0xF, 0x06, false⟩,
    ⟨false, false, 0x0, 0x9, true,  0x0, 0x3, 0x06, false⟩,
    ⟨false, false, 0xA, 0xF, false, 0x0, 0x9, 0x60, true⟩,
    ⟨false, false, 0x9, 0xF, false, 0xA, 0xF, 0x66, true⟩,
    ⟨false, false, 0xA, 0xF, true,  0x0, 0x3, 0x66, true⟩,
    ⟨false, true,  0x0, 0x2, false, 0x0, 0x9, 0x60, true⟩,
    ⟨false, true,  0x0, 0x2, false, 0xA, 0xF, 0x66, true⟩,
    ⟨false, true,  0x0, 0x3, true,  0x0, 0x3, 0x66, true⟩,
    ⟨true,  false, 0x0, 0x9, false, 0x0, 0x9, 0x00, false⟩,
    ⟨true,  false, 0x0, 0x8, true,  0x6, 0xF, 0xFA, false⟩,
    ⟨true,  true,  0x7, 0xF, false, 0x0, 0x9, 0xA0, true⟩,
    ⟨true,  true,  0x6, 0xF, true,  0x6, 0xF, 0x9A, true⟩ ]

/-- The row covers the operand `v` under the flags C, H and D; D picks the half of the table (92_eei_decisions.md D15; log 26). -/
def DaRow.covers (row : DaRow) (v : Byte) (c h d : Bool) : Bool :=
  row.sub == d && row.c == c && row.h == h &&
  decide (row.hiFirst ≤ (hiNib v).toNat) && decide ((hiNib v).toNat ≤ row.hiLast) &&
  decide (row.loFirst ≤ (loNib v).toNat) && decide ((loNib v).toNat ≤ row.loLast)

/-- The row of the table that covers `v`, if one does (40_arithmetic.md R135). -/
def daRow (v : Byte) (c h d : Bool) : Option DaRow := daTable.find? fun row => row.covers v c h d

/-- DA by its row: `ov` is the undefined overflow flag, a free value (40_arithmetic.md R135). -/
def daCore (row : DaRow) (v : Byte) (ov : Bool) : Byte × FlagUpd :=
  let r := v + row.added
  (r, { c := some row.cAfter, z := some (r == 0), s := some r.msb, v := some ov })

/-- `cond(cc)`: the condition is true of the current flags, by the part's table P_CC (30_encoding.md R108; log 3). -/
def State.cond (s : State) (cc : Cond) : Bool := (s.chip.cond.entry cc).holds s.chip.flagBits s.flags

end Sys2Proof.Machine
end

