-- ==== Sys2Proof/Machine/Ops.lean ====
section
/-! DEFINITION. The named operations: registers, memories, the stack, interrupt entry and return, and how an instruction
ends (spec/10_state.md R20 to R45; spec/20_memory.md; spec/60_exceptions.md R282 to R298; spec/70_reset_and_hazards.md R310). -/

namespace Sys2Proof.Machine

/-! ## The register file -/

/-- What a register-file address reaches (10_state.md R21, R24). -/
inductive RegLoc where
  /-- the general-purpose register at address `i + 4` -/
  | gpr (i : Fin 236)
  /-- register `i % 16` of expanded bank `i / 16 + 1` -/
  | bank (i : Fin 240)
  | imr
  | flags
  | rp
  | sph
  | spl
  /-- a port or one of F0H-FAH, owned by the oracle -/
  | device (a : Byte)
  deriving DecidableEq, Repr

/-- What address `a` reaches in bank 0 (10_state.md R21, R37). -/
def bank0Loc (a : Byte) : RegLoc :=
  if h : 4 ≤ a.toNat ∧ a.toNat < 0xF0 then .gpr ⟨a.toNat - 4, by omega⟩
  else if a = 0xFB then .imr
  else if a = 0xFC then .flags
  else if a = 0xFD then .rp
  else if a = 0xFE then .sph
  else if a = 0xFF then .spl
  else .device a

/-- The selected bank is an expanded one, `a` is one of 00H-0FH and that bank implements it (10_state.md R22, R24). -/
def State.inBank (s : State) (a : Byte) : Bool :=
  loNib s.rp != 0 && hiNib a == 0 && s.chip.bankImpl.contains (loNib s.rp, loNib a)

/-- The entry of `banks` that holds register `r` of bank `b`, for `b` not 0 (10_state.md R22). -/
def bankIndex (b r : Nibble) : Fin 240 := ⟨(b.toNat - 1) * 16 + r.toNat, by omega⟩

/-- `loc(a)`: what address `a` reaches under the current RP (10_state.md R24). -/
def State.loc (s : State) (a : Byte) : RegLoc :=
  if s.inBank a then .bank (bankIndex (loNib s.rp) (loNib a)) else bank0Loc a

/-- `a` reaches a register the part does not implement (10_state.md R23, R24). -/
def State.absent (s : State) (a : Byte) : Bool := !s.inBank a && s.chip.absentRegs.contains a

/-- The contents of a register; the oracle answers for the ports and F0H-FAH (20_memory.md R69). -/
def State.valueAt (s : State) (k : ReadSlot) : RegLoc → Byte
  | .gpr i => s.gpr.get i
  | .bank i => s.banks.get i
  | .imr => s.imr
  | .flags => s.flags
  | .rp => s.rp
  | .sph => s.sph
  | .spl => s.spl
  | .device a => Config.deviceByte s.time k a

/-- The state after `v` is written to a register; a write to an oracle's register is recorded and no more (20_memory.md R69). -/
def State.store (s : State) (l : RegLoc) (v : Byte) : State :=
  match l with
  | .gpr i => { s with gpr := s.gpr.set i v }
  | .bank i => { s with banks := s.banks.set i v }
  | .imr => { s with imr := v }
  | .flags => { s with flags := v }
  | .rp => { s with rp := v }
  | .sph => { s with sph := v }
  | .spl => { s with spl := v }
  | .device a => { s with deviceWrites := s.deviceWrites ++ [(a, v)] }

/-- The result of a part of an instruction, or the model fault it raises. -/
abbrev Res := Except Fault

/-- `Reg[a]` (10_state.md R24). -/
def State.readReg (s : State) (k : ReadSlot) (a : Byte) : Res Byte :=
  if s.absent a then .error .unimplementedRegister else .ok (s.valueAt k (s.loc a))

/-- `Reg[a] <- v` (10_state.md R24). -/
def State.writeReg (s : State) (a v : Byte) : Res State :=
  if s.absent a then .error .unimplementedRegister else .ok (s.store (s.loc a) v)

/-- `wr(n)`, the address of working register `n` (10_state.md R26). -/
def State.wrAddr (s : State) (n : Nibble) : Byte := nibbles (hiNib s.rp) n

/-- `x[n]` (10_state.md R26). -/
def State.readWr (s : State) (k : ReadSlot) (n : Nibble) : Res Byte := s.readReg k (s.wrAddr n)

/-- `x[n] <- v` (10_state.md R26). -/
def State.writeWr (s : State) (n : Nibble) (v : Byte) : Res State := s.writeReg (s.wrAddr n) v

/-- `RegPair[p]`, the high byte at the even address `p` (10_state.md R27). -/
def State.readPair (s : State) (p : Byte) : Res Word := do
  let h ← s.readReg .pairHi p
  let l ← s.readReg .pairLo (p + 1)
  return word16 h l

/-! ## Program memory and external data memory -/

/-- One byte of program memory (20_memory.md R60). -/
def State.progByte (s : State) (a : Word) : Byte := memRead s.prog a.toNat

/-- `MemRead(PROG, a, 2)`: the high byte at `a` (20_memory.md R61). -/
def State.progWord (s : State) (a : Word) : Word := word16 (s.progByte a) (s.progByte (a + 1))

/-- LDC and LDCI can reach address `a` on this part (43_load.md R210; log 19). -/
def State.reaches (s : State) (a : Word) : Bool := !s.chip.progUnreached.any (·.holds a)

/-- A program byte read as data by LDC or LDCI (43_load.md R210). -/
def State.readProg (s : State) (a : Word) : Res Byte :=
  if s.reaches a then .ok (s.progByte a) else .error .notOnThisPart

/-- A store form of LDC or LDCI may change address `a` (20_memory.md R78). -/
def State.mayWriteProg (s : State) (a : Word) : Bool :=
  s.chip.extProg && !s.chip.progReadOnly.any (·.holds a) && s.reaches a

/-- `a` lies in the three bytes the following instruction may occupy; `pc` holds `next` (20_memory.md R76; log 20). -/
def State.inPipeline (s : State) (a : Word) : Bool := decide ((a - s.pc).toNat < 3)

/-- A program byte written by LDC or LDCI (20_memory.md R76, R78). -/
def State.writeProg (s : State) (a : Word) (v : Byte) : Res State :=
  if !s.mayWriteProg a then .error .notOnThisPart
  else if s.inPipeline a then .error .storeIntoPipeline
  else .ok { s with prog := memWrite s.prog a.toNat v }

/-- One byte of external data memory (20_memory.md R60, R78). -/
def State.readData (s : State) (a : Word) : Res Byte :=
  if s.chip.extData then .ok (memRead s.data a.toNat) else .error .notOnThisPart

/-- A byte written to external data memory (20_memory.md R60, R78). -/
def State.writeData (s : State) (a : Word) (v : Byte) : Res State :=
  if s.chip.extData then .ok { s with data := memWrite s.data a.toNat v } else .error .notOnThisPart

/-! ## The stack -/

/-- An address of the stack space: mod 65536 when external, mod 256 when internal (10_state.md R31, R32). -/
def State.stackAddr (s : State) (a : Word) : Word := if s.chip.stackExternal then a else zext16 (loByte a)

/-- `SP`: SPH ‖ SPL when the stack is external, SPL alone when it is internal (10_state.md R31). -/
def State.sp (s : State) : Word := if s.chip.stackExternal then word16 s.sph s.spl else zext16 s.spl

/-- `SP <- a`; an internal stack leaves SPH alone (10_state.md R31; log 21). -/
def State.setSp (s : State) (a : Word) : State :=
  if s.chip.stackExternal then { s with sph := hiByte a, spl := loByte a } else { s with spl := loByte a }

/-- `StackRead(a)` (10_state.md R31). -/
def State.stackRead (s : State) (k : ReadSlot) (a : Word) : Res Byte :=
  if s.chip.stackExternal then s.readData a else s.readReg k (loByte a)

/-- `StackWrite(a, v)` (10_state.md R31). -/
def State.stackWrite (s : State) (a : Word) (v : Byte) : Res State :=
  if s.chip.stackExternal then s.writeData a v else s.writeReg (loByte a) v

/-- Push8 (10_state.md R32). -/
def State.push8 (s : State) (v : Byte) : Res State :=
  let a := s.stackAddr (s.sp - 1)
  (s.setSp a).stackWrite a v

/-- Pop8 (10_state.md R32). -/
def State.pop8 (s : State) (k : ReadSlot) : Res (Byte × State) := do
  let a := s.sp
  let v ← s.stackRead k a
  return (v, s.setSp (s.stackAddr (a + 1)))

/-- Push16: the high byte at the lower address, both addresses fixed before any byte moves (10_state.md R32). -/
def State.push16 (s : State) (w : Word) : Res State := do
  let a := s.stackAddr (s.sp - 2)
  let s1 ← (s.setSp a).stackWrite a (hiByte w)
  s1.stackWrite (s.stackAddr (a + 1)) (loByte w)

/-- Pop16 (10_state.md R32). -/
def State.pop16 (s : State) (kh kl : ReadSlot) : Res (Word × State) := do
  let a := s.sp
  let h ← s.stackRead kh a
  let l ← s.stackRead kl (s.stackAddr (a + 1))
  return (word16 h l, s.setSp (s.stackAddr (a + 2)))

/-! ## Interrupt entry and return: the one exception mechanism of the machine -/

/-- Request `n` is enabled: IMR[7] and IMR[n] (60_exceptions.md R282). -/
def State.irqEnabled (s : State) (n : Nat) : Bool := s.imr.getLsbD 7 && s.imr.getLsbD n

/-- Request `n` exists, is pending and is enabled (60_exceptions.md R284). -/
def State.irqReady (s : State) (n : Nat) : Bool :=
  decide (n < s.chip.nIrq) && s.pending.getLsbD n && s.irqEnabled n

/-- Request `n` may be taken: it is ready, and no ready request has priority over it (60_exceptions.md R284, R287; log 15). -/
def State.irqEligible (s : State) (n : Nat) : Bool :=
  s.irqReady n && (List.range s.chip.nIrq).all fun m => !(s.irqReady m && s.chip.before m n)

/-- Interrupt entry for source `n` (60_exceptions.md R285, R288; log 5, log 6): PC and then FLAGS are pushed, IMR[7] is
cleared, the PC is loaded from the vector. -/
def State.enterInterrupt (s : State) (n : Nat) : Res State := do
  let s1 ← { s with pending := setBit s.pending n false }.push16 s.pc
  let s2 ← s1.push8 s1.flags
  return { s2 with imr := setBit s2.imr 7 false
                   pc := s2.progWord (s2.chip.vector n)
                   runState := .run
                   prevNop := false
                   time := s2.time + 1 }

/-- Return from interrupt, the inverse of entry (44_control_transfer.md R232; log 4): FLAGS and then PC are popped, IMR[7] is set. -/
def State.leaveInterrupt (s : State) : Res State := do
  let (f, s1) ← s.pop8 .stack0
  let (w, s2) ← { s1 with flags := f }.pop16 .stack1 .stack2
  return { s2 with pc := w, imr := setBit s2.imr 7 true }

/-! ## How an instruction ends -/

/-- The outcome of a step of the machine. -/
abbrev Outcome := Host.Outcome State Fault Refusal

/-- Every instruction but NOP clears `prevNop` (10_state.md R45); the index of the free values moves on (log 10). -/
def State.retire (s : State) : State := { s with prevNop := false, time := s.time + 1 }

/-- An instruction's outcome: its state, retired, or the model fault it raised. -/
def finish : Res State → Outcome
  | .ok s => .next s.retire
  | .error f => .fault f

/-! ## Reset -/

/-- A general register, a bank register and the others are numbered 0-235, 236-475 and 476-481 after a RESET event. -/
def State.resetValue (s : State) (i : Nat) : Byte := Config.resetByte s.time i

/-- The pending bits of the sources the part has. -/
def sourceMask (n : Nat) : Byte := BitVec.ofNat 8 (2 ^ n - 1)

/-- The RESET event (70_reset_and_hazards.md R310): PC, run state, `prevNop`, `wdtEnabled` and `wdtInHalt` as the spec gives
them; program memory is configuration and stays; registers, pending requests and data memory are unspecified, free values
(10_state.md R50; log 12). DESIGN CHOICE, unsafe (log 12, log 13): the Watch-Dog's counter, to which neither R50 nor R310
gives a value, is 0; the write history and the schedule stay; the index of the free values moves on. -/
def State.resetEvent (s : State) : State :=
  { s with
    gpr := Vector.ofFn fun i => s.resetValue i
    banks := Vector.ofFn fun i => s.resetValue (236 + i)
    imr := s.resetValue 476
    flags := s.resetValue 477
    rp := s.resetValue 478
    sph := s.resetValue 479
    spl := s.resetValue 480
    pending := s.resetValue 481 &&& sourceMask s.chip.nIrq
    data := memOfCells (Config.resetData s.time)
    pc := 0x000C
    runState := .run
    wdtEnabled := false
    wdtInHalt := false
    wdtCount := 0
    prevNop := false
    time := s.time + 1 }

end Sys2Proof.Machine
end

