-- ==== Sys2Proof/Machine/Operands.lean ====
section
/-! DEFINITION. The operand forms (spec/30_encoding.md R92 to R103) and the shapes of instruction they are used in. -/

namespace Sys2Proof.Machine

/-- A register operand, as its mode names it. -/
inductive Place where
  /-- `r`: working register `n` (30_encoding.md R92) -/
  | r (n : Nibble)
  /-- `Ir`: the register whose address working register `n` holds (30_encoding.md R94) -/
  | ir (n : Nibble)
  /-- `R`: the register the operand byte names (30_encoding.md R93) -/
  | reg (o : RegOp)
  /-- `IR`: the register whose address the named register holds (30_encoding.md R95) -/
  | indirect (o : RegOp)
  /-- `X`: the register at `offset + x[index]` (30_encoding.md R99) -/
  | indexed (index : Nibble) (offset : Byte)
  deriving DecidableEq, Repr

/-- A source operand: a register, or the immediate byte itself (30_encoding.md R98). -/
inductive Source where
  | place (p : Place)
  | imm (b : Byte)
  deriving DecidableEq, Repr

/-- `ea_R(b)`: the register an R, IR, RR or IRR byte names (30_encoding.md R93). -/
def State.regAddr (s : State) : RegOp → Byte
  | .reg a => a
  | .wr n => s.wrAddr n

/-- The register-file address of an operand; `k` is the read of its pointer. A computed address is used as it is, never
through the E-escape (30_encoding.md R110 (c); log 24). -/
def State.placeAddr (s : State) (k : ReadSlot) : Place → Res Byte
  | .r n => .ok (s.wrAddr n)
  | .ir n => s.readWr k n
  | .reg o => .ok (s.regAddr o)
  | .indirect o => s.readReg k (s.regAddr o)
  | .indexed n offset => do
    let x ← s.readWr k n
    return offset + x

/-- `d_addr`, the address of a destination (30_encoding.md R102, R103). -/
def State.dstAddr (s : State) (p : Place) : Res Byte := s.placeAddr .dstPtr p

/-- `s_val`, the value of a source (30_encoding.md R102). -/
def State.srcVal (s : State) : Source → Res Byte
  | .imm b => .ok b
  | .place p => do
    let a ← s.placeAddr .srcPtr p
    s.readReg .src a

/-- The register a flag-writing instruction may not have as its explicit destination (10_state.md R38). -/
def flagsAddr : Byte := 0xFC

/-- `RR`, `IRR`: the address of the pair an operand names, which must be even (30_encoding.md R96, R111). -/
def evenPair (p : Byte) : Res Byte := if isOdd p then .error .oddRegisterPair else .ok p

/-- The register `a` becomes `r` and the flags change by `u`: an instruction that writes both may not have the flag
register as its destination (10_state.md R38). -/
def State.writeWithFlags (s : State) (a r : Byte) (u : FlagUpd) : Res State :=
  if a = flagsAddr then .error .implicitExplicitClash
  else do
    let s1 ← s.writeReg a r
    return s1.withFlags u

/-- A two-operand instruction that stores its result: both operands are read before the destination is written
(30_encoding.md R102). `f` is given the destination, the source and C. -/
def alu2 (f : Byte → Byte → Bool → Byte × FlagUpd) (dst : Place) (src : Source) (s : State) : Outcome :=
  finish do
    let a ← s.dstAddr dst
    let v ← s.srcVal src
    let d ← s.readReg .dst a
    let r := f d v (s.flag .c)
    s.writeWithFlags a r.1 r.2

/-- A two-operand instruction that only sets flags: CP, TCM, TM (30_encoding.md R102). -/
def test2 (f : Byte → Byte → Byte × FlagUpd) (dst : Place) (src : Source) (s : State) : Outcome :=
  finish do
    let a ← s.dstAddr dst
    let v ← s.srcVal src
    let d ← s.readReg .dst a
    return s.withFlags (f d v).2

/-- A one-operand instruction on a register (30_encoding.md R103). `f` is given the old value and C. -/
def alu1 (f : Byte → Bool → Byte × FlagUpd) (dst : Place) (s : State) : Outcome :=
  finish do
    let a ← s.dstAddr dst
    let d ← s.readReg .dst a
    let r := f d (s.flag .c)
    s.writeWithFlags a r.1 r.2

/-- A one-operand instruction on a register pair (30_encoding.md R103, 20_memory.md R66): `p` is the pair's address. -/
def aluPair (f : Word → Word × FlagUpd) (p : Res Byte) (s : State) : Outcome :=
  finish do
    let a ← p
    let a ← evenPair a
    if a = flagsAddr then .error .implicitExplicitClash
    let w ← s.readPair a
    let r := f w
    let s1 ← s.writeReg a (hiByte r.1)
    let s2 ← s1.writeReg (a + 1) (loByte r.1)
    return s2.withFlags r.2

/-- A load: the source is read, then the destination written; no flag is touched (43_load.md R201). -/
def load (dst : Place) (src : Source) (s : State) : Outcome :=
  finish do
    let a ← s.dstAddr dst
    let v ← s.srcVal src
    s.writeReg a v

/-- The flags after an instruction that touches nothing else. -/
def setFlags (u : FlagUpd) (s : State) : Outcome := finish (.ok (s.withFlags u))

/-- The address held by working register pair `m`, which must be even (30_encoding.md R97, R111). -/
def State.readWrPair (s : State) (m : Nibble) : Res Word := do
  if m.getLsbD 0 then .error .oddRegisterPair
  let h ← s.readWr .pairHi m
  let l ← s.readWr .pairLo (m + 1)
  return word16 h l

end Sys2Proof.Machine
end

