-- ==== Sys2Proof/Machine/Agents.lean ====
section
/-! DEFINITION. Fetching an instruction, the stopped CPU, and the agents outside it: interrupts, Watch-Dog, reset
(spec/60_exceptions.md R282 to R298; spec/70_reset_and_hazards.md R310; spec/20_memory.md R67). -/

namespace Sys2Proof.Machine

/-! ## Fetch -/

/-- The three bytes at the program counter, as many as an instruction can have (20_memory.md R62, R67). -/
def State.fetchBytes (s : State) : List Byte := [s.progByte s.pc, s.progByte (s.pc + 1), s.progByte (s.pc + 2)]

/-- The instruction at the program counter. Three bytes are never truncated, so the only rejection is an unassigned opcode
(30_encoding.md R109). -/
def State.fetchInstr (s : State) : Res Instr :=
  match decode s.fetchBytes with
  | .ok (i, _) => .ok i
  | .error _ => .error .unassignedOpcode

/-- The PC an instruction sees: the address of the byte after it (10_state.md R29, 00_scope.md R8). -/
def State.advance (s : State) : State :=
  { s with pc := s.pc + BitVec.ofNat 16 (opLength (s.progByte s.pc)) }

/-- The bytes of a table word, and zeros up to three, stored where the next instruction is fetched. -/
def State.placeWord (s : State) (nbits w : Nat) : State :=
  let bs := tableBytes nbits w
  { s with prog := memWrite (memWrite (memWrite s.prog s.pc.toNat (bs.getD 0 0))
      (s.pc + 1).toNat (bs.getD 1 0)) (s.pc + 2).toNat (bs.getD 2 0) }

/-! ## A stopped CPU -/

/-- The requests that may be taken, lowest source first (60_exceptions.md R284, R287). -/
def State.eligibleSources (s : State) : List Nat := (List.range s.chip.nIrq).filter s.irqEligible

/-- Which of several requests that may be taken is, in HALT: any one, a free choice (60_exceptions.md R287; log 15). -/
def State.chooseSource (s : State) : List Nat → Option Nat
  | [] => none
  | [n] => some n
  | n :: m :: ns => some ((n :: m :: ns).getD (Config.irqChoice s.time % (ns.length + 2)) n)

/-- Interrupt entry as a step of the machine. -/
def takeInterrupt (n : Nat) (s : State) : Outcome :=
  match s.enterInterrupt n with
  | .ok s' => .next s'
  | .error f => .fault f

/-- HALT mode: an enabled pending request is accepted without delay; otherwise nothing happens and the machine waits
(60_exceptions.md R297; log 14). -/
def haltStep (s : State) : Outcome :=
  match s.chooseSource s.eligibleSources with
  | some n => takeInterrupt n s
  | none => .next s

/-- STOP mode: nothing happens until reset (60_exceptions.md R298; log 14). -/
def stopStep (s : State) : Outcome := .next s

/-! ## The environment -/

/-- A device raises request `n` of a source the part has (60_exceptions.md R283). -/
def raiseRequest (n : Nat) (s : State) : Outcome :=
  .next (if n < s.chip.nIrq then { s with pending := setBit s.pending n true } else s)

/-- The interrupt agent acts on request `n`, if it may: in RUN or HALT, the request enabled and pending, and the part's
priority order putting no other such request before it (60_exceptions.md R284, R287). -/
def acceptRequest (n : Nat) (s : State) : Outcome :=
  if s.runState ≠ .stop ∧ s.irqEligible n then takeInterrupt n s else .next s

/-- The Watch-Dog is counting (60_exceptions.md R293, R295). -/
def State.wdtCounting (s : State) : Bool :=
  s.wdtEnabled &&
    match s.runState with
    | .run => true
    | .halt => s.wdtInHalt
    | .stop => s.chip.wdtInStop

/-- One tick of the Watch-Dog's clock: at the terminal count the chip is reset (60_exceptions.md R294; log 13). -/
def tickWatchDog (s : State) : Outcome :=
  .next (if s.wdtCounting then
      if s.wdtCount + 1 ≥ s.chip.wdtTimeout then s.resetEvent else { s with wdtCount := s.wdtCount + 1 }
    else s)

/-- One event of the environment (00_scope.md R12). -/
def environment (e : EnvEvent) (s : State) : Outcome :=
  match e with
  | .request n => raiseRequest n s
  | .accept n => acceptRequest n s
  | .wdtTick => tickWatchDog s
  | .reset => .next s.resetEvent

end Sys2Proof.Machine
end

