-- ==== Sys2Proof/Machine/Arithmetic.lean ====
section
/-! DEFINITION. The arithmetic instructions (spec/40_arithmetic.md): ADC, ADD, CP, DA, DEC, DECW, INC, INCW, SBC, SUB. -/

namespace Sys2Proof.Machine

/-- An operation on the old value alone. -/
def plain (f : Byte → Byte × FlagUpd) (d : Byte) (_c : Bool) : Byte × FlagUpd := f d

/-- ADD does not read C (40_arithmetic.md R133). -/
def addOp (d s : Byte) (_c : Bool) : Byte × FlagUpd := addCore d s false

/-- SUB does not read C (40_arithmetic.md R141). -/
def subOp (d s : Byte) (_c : Bool) : Byte × FlagUpd := subCore d s false

/-- DA: outside its table the operation is undefined and the model faults; V is a free value (40_arithmetic.md R135). -/
def decimalAdjust (dst : Place) (s : State) : Outcome :=
  finish do
    let a ← s.dstAddr dst
    let d ← s.readReg .dst a
    match daRow d (s.flag .c) (s.flag .h) (s.flag .d) with
    | none => .error .daUndefined
    | some row =>
      let r := daCore row d (Config.freeFlag s.time .v)
      s.writeWithFlags a r.1 r.2

/-- ADD r,r (40_arithmetic.md R133). -/
def execAdd_r_r (dst : Nibble) (src : Nibble) (s : State) : Outcome := alu2 addOp (.r dst) (.place (.r src)) s

/-- ADD r,Ir (40_arithmetic.md R133). -/
def execAdd_r_Ir (dst : Nibble) (src : Nibble) (s : State) : Outcome := alu2 addOp (.r dst) (.place (.ir src)) s

/-- ADD R,R (40_arithmetic.md R133). -/
def execAdd_R_R (dst : RegOp) (src : RegOp) (s : State) : Outcome := alu2 addOp (.reg dst) (.place (.reg src)) s

/-- ADD R,IR (40_arithmetic.md R133). -/
def execAdd_R_IR (dst : RegOp) (src : RegOp) (s : State) : Outcome := alu2 addOp (.reg dst) (.place (.indirect src)) s

/-- ADD R,IM (40_arithmetic.md R133). -/
def execAdd_R_IM (dst : RegOp) (src : Byte) (s : State) : Outcome := alu2 addOp (.reg dst) (.imm src) s

/-- ADD IR,IM (40_arithmetic.md R133). -/
def execAdd_IR_IM (dst : RegOp) (src : Byte) (s : State) : Outcome := alu2 addOp (.indirect dst) (.imm src) s

/-- ADC r,r (40_arithmetic.md R132). -/
def execAdc_r_r (dst : Nibble) (src : Nibble) (s : State) : Outcome := alu2 addCore (.r dst) (.place (.r src)) s

/-- ADC r,Ir (40_arithmetic.md R132). -/
def execAdc_r_Ir (dst : Nibble) (src : Nibble) (s : State) : Outcome := alu2 addCore (.r dst) (.place (.ir src)) s

/-- ADC R,R (40_arithmetic.md R132). -/
def execAdc_R_R (dst : RegOp) (src : RegOp) (s : State) : Outcome := alu2 addCore (.reg dst) (.place (.reg src)) s

/-- ADC R,IR (40_arithmetic.md R132). -/
def execAdc_R_IR (dst : RegOp) (src : RegOp) (s : State) : Outcome := alu2 addCore (.reg dst) (.place (.indirect src)) s

/-- ADC R,IM (40_arithmetic.md R132). -/
def execAdc_R_IM (dst : RegOp) (src : Byte) (s : State) : Outcome := alu2 addCore (.reg dst) (.imm src) s

/-- ADC IR,IM (40_arithmetic.md R132). -/
def execAdc_IR_IM (dst : RegOp) (src : Byte) (s : State) : Outcome := alu2 addCore (.indirect dst) (.imm src) s

/-- SUB r,r (40_arithmetic.md R141). -/
def execSub_r_r (dst : Nibble) (src : Nibble) (s : State) : Outcome := alu2 subOp (.r dst) (.place (.r src)) s

/-- SUB r,Ir (40_arithmetic.md R141). -/
def execSub_r_Ir (dst : Nibble) (src : Nibble) (s : State) : Outcome := alu2 subOp (.r dst) (.place (.ir src)) s

/-- SUB R,R (40_arithmetic.md R141). -/
def execSub_R_R (dst : RegOp) (src : RegOp) (s : State) : Outcome := alu2 subOp (.reg dst) (.place (.reg src)) s

/-- SUB R,IR (40_arithmetic.md R141). -/
def execSub_R_IR (dst : RegOp) (src : RegOp) (s : State) : Outcome := alu2 subOp (.reg dst) (.place (.indirect src)) s

/-- SUB R,IM (40_arithmetic.md R141). -/
def execSub_R_IM (dst : RegOp) (src : Byte) (s : State) : Outcome := alu2 subOp (.reg dst) (.imm src) s

/-- SUB IR,IM (40_arithmetic.md R141). -/
def execSub_IR_IM (dst : RegOp) (src : Byte) (s : State) : Outcome := alu2 subOp (.indirect dst) (.imm src) s

/-- SBC r,r (40_arithmetic.md R140). -/
def execSbc_r_r (dst : Nibble) (src : Nibble) (s : State) : Outcome := alu2 subCore (.r dst) (.place (.r src)) s

/-- SBC r,Ir (40_arithmetic.md R140). -/
def execSbc_r_Ir (dst : Nibble) (src : Nibble) (s : State) : Outcome := alu2 subCore (.r dst) (.place (.ir src)) s

/-- SBC R,R (40_arithmetic.md R140). -/
def execSbc_R_R (dst : RegOp) (src : RegOp) (s : State) : Outcome := alu2 subCore (.reg dst) (.place (.reg src)) s

/-- SBC R,IR (40_arithmetic.md R140). -/
def execSbc_R_IR (dst : RegOp) (src : RegOp) (s : State) : Outcome := alu2 subCore (.reg dst) (.place (.indirect src)) s

/-- SBC R,IM (40_arithmetic.md R140). -/
def execSbc_R_IM (dst : RegOp) (src : Byte) (s : State) : Outcome := alu2 subCore (.reg dst) (.imm src) s

/-- SBC IR,IM (40_arithmetic.md R140). -/
def execSbc_IR_IM (dst : RegOp) (src : Byte) (s : State) : Outcome := alu2 subCore (.indirect dst) (.imm src) s

/-- CP r,r (40_arithmetic.md R134). -/
def execCp_r_r (dst : Nibble) (src : Nibble) (s : State) : Outcome := test2 cpCore (.r dst) (.place (.r src)) s

/-- CP r,Ir (40_arithmetic.md R134). -/
def execCp_r_Ir (dst : Nibble) (src : Nibble) (s : State) : Outcome := test2 cpCore (.r dst) (.place (.ir src)) s

/-- CP R,R (40_arithmetic.md R134). -/
def execCp_R_R (dst : RegOp) (src : RegOp) (s : State) : Outcome := test2 cpCore (.reg dst) (.place (.reg src)) s

/-- CP R,IR (40_arithmetic.md R134). -/
def execCp_R_IR (dst : RegOp) (src : RegOp) (s : State) : Outcome := test2 cpCore (.reg dst) (.place (.indirect src)) s

/-- CP R,IM (40_arithmetic.md R134). -/
def execCp_R_IM (dst : RegOp) (src : Byte) (s : State) : Outcome := test2 cpCore (.reg dst) (.imm src) s

/-- CP IR,IM (40_arithmetic.md R134). -/
def execCp_IR_IM (dst : RegOp) (src : Byte) (s : State) : Outcome := test2 cpCore (.indirect dst) (.imm src) s

/-- DEC R (40_arithmetic.md R136). -/
def execDec_R (dst : RegOp) (s : State) : Outcome := alu1 (plain decCore) (.reg dst) s

/-- DEC IR (40_arithmetic.md R136). -/
def execDec_IR (dst : RegOp) (s : State) : Outcome := alu1 (plain decCore) (.indirect dst) s

/-- INC R (40_arithmetic.md R138). -/
def execInc_R (dst : RegOp) (s : State) : Outcome := alu1 (plain incCore) (.reg dst) s

/-- INC IR (40_arithmetic.md R138). -/
def execInc_IR (dst : RegOp) (s : State) : Outcome := alu1 (plain incCore) (.indirect dst) s

/-- DA R (40_arithmetic.md R135). -/
def execDa_R (dst : RegOp) (s : State) : Outcome := decimalAdjust (.reg dst) s

/-- DA IR (40_arithmetic.md R135). -/
def execDa_IR (dst : RegOp) (s : State) : Outcome := decimalAdjust (.indirect dst) s

/-- DECW RR (40_arithmetic.md R137). -/
def execDecw_RR (dst : RegOp) (s : State) : Outcome := aluPair decwCore (.ok (s.regAddr dst)) s

/-- DECW IR (40_arithmetic.md R137). -/
def execDecw_IR (dst : RegOp) (s : State) : Outcome := aluPair decwCore (s.readReg .dstPtr (s.regAddr dst)) s

/-- INCW RR (40_arithmetic.md R139). -/
def execIncw_RR (dst : RegOp) (s : State) : Outcome := aluPair incwCore (.ok (s.regAddr dst)) s

/-- INCW IR (40_arithmetic.md R139). -/
def execIncw_IR (dst : RegOp) (s : State) : Outcome := aluPair incwCore (s.readReg .dstPtr (s.regAddr dst)) s

/-- INC r (40_arithmetic.md R138). -/
def execInc_r (dst : Nibble) (s : State) : Outcome := alu1 (plain incCore) (.r dst) s

end Sys2Proof.Machine
end

