-- ==== Sys2Proof/Machine/ControlTransfer.lean ====
section
/-! DEFINITION. The control-transfer instructions (spec/44_control_transfer.md): CALL, DJNZ, IRET, JP, JR, RET. In every
meaning `s.pc` already holds the address of the byte after the instruction (spec/00_scope.md R8). -/

namespace Sys2Proof.Machine

/-- `(next + sext_16(disp)) mod 65536` (30_encoding.md R100). -/
def State.relative (s : State) (disp : Byte) : Word := s.pc + sext16 disp

/-- `pc <- t` (00_scope.md R7). -/
def State.jump (s : State) (t : Word) : State := { s with pc := t }

/-- CALL to a known target: `next` is pushed, the target loaded (44_control_transfer.md R230). -/
def State.call (s : State) (t : Word) : Res State := do
  let s1 ← s.push16 s.pc
  return s1.jump t

/-- DJNZ's counter is one of registers 04H-EFH, whatever bank is selected (44_control_transfer.md R231). -/
def isGeneral (a : Byte) : Bool := decide (4 ≤ a.toNat) && decide (a.toNat < 0xF0)

/-- JP IRR (44_control_transfer.md R233). -/
def execJp_IRR (dst : RegOp) (s : State) : Outcome :=
  finish do
    let p ← evenPair (s.regAddr dst)
    let t ← s.readPair p
    return s.jump t

/-- CALL IRR (44_control_transfer.md R230): the pair is read before the push; SPH:SPL may not be the pair. -/
def execCall_IRR (dst : RegOp) (s : State) : Outcome :=
  finish do
    let p ← evenPair (s.regAddr dst)
    if p = 0xFE then .error .implicitExplicitClash
    let t ← s.readPair p
    s.call t

/-- CALL DA (44_control_transfer.md R230). -/
def execCall_DA (dst : Word) (s : State) : Outcome := finish (s.call dst)

/-- DJNZ r,RA (44_control_transfer.md R231): the decrement sets no flag. -/
def execDjnz_r_RA (r : Nibble) (dst : Byte) (s : State) : Outcome :=
  finish do
    if !isGeneral (s.wrAddr r) then .error .djnzOnNonGeneralRegister
    let x ← s.readWr .dst r
    let v := x - 1
    let s1 ← s.writeWr r v
    return if v != 0 then s1.jump (s.relative dst) else s1

/-- JR cc,RA (44_control_transfer.md R234). -/
def execJr_cc_RA (cc : Cond) (dst : Byte) (s : State) : Outcome :=
  finish (.ok (if s.cond cc then s.jump (s.relative dst) else s))

/-- JP cc,DA (44_control_transfer.md R233). -/
def execJp_cc_DA (cc : Cond) (dst : Word) (s : State) : Outcome :=
  finish (.ok (if s.cond cc then s.jump dst else s))

/-- RET (44_control_transfer.md R235). -/
def execRet (s : State) : Outcome :=
  finish do
    let (t, s1) ← s.pop16 .stack0 .stack1
    return s1.jump t

/-- IRET (44_control_transfer.md R232). -/
def execIret (s : State) : Outcome := finish s.leaveInterrupt

end Sys2Proof.Machine
end

