-- ==== Sys2Proof/Machine/CpuControl.lean ====
section
/-! DEFINITION. The CPU control instructions (spec/45_cpu_control.md): CCF, DI, EI, HALT, NOP, RCF, SCF, SRP, STOP, WDH,
WDT. -/

namespace Sys2Proof.Machine

/-- The three flags WDT and WDH leave undefined, each a free value of its own (45_cpu_control.md R259, R260; log 10). -/
def State.freeZSV (s : State) : FlagUpd :=
  { z := some (Config.freeFlag s.time .z), s := some (Config.freeFlag s.time .s), v := some (Config.freeFlag s.time .v) }

/-- SRP IM (45_cpu_control.md R257): all eight bits. -/
def execSrp_IM (src : Byte) (s : State) : Outcome := finish (.ok { s with rp := src })

/-- WDH (45_cpu_control.md R259): it has no effect on the Watch-Dog unless WDT has run. -/
def execWdh (s : State) : Outcome :=
  finish (if s.chip.wdt then
      .ok { s.withFlags s.freeZSV with wdtInHalt := s.wdtInHalt || s.wdtEnabled }
    else .error .unassignedOpcode)

/-- WDT (45_cpu_control.md R260): it enables the Watch-Dog and restarts its count. -/
def execWdt (s : State) : Outcome :=
  finish (if s.chip.wdt then
      .ok { s.withFlags s.freeZSV with wdtEnabled := true, wdtCount := 0 }
    else .error .unassignedOpcode)

/-- STOP (45_cpu_control.md R258): only immediately after NOP. -/
def execStop (s : State) : Outcome :=
  finish (if s.prevNop then .ok { s with runState := .stop } else .error .stopWithoutNop)

/-- HALT (45_cpu_control.md R253): only immediately after NOP. -/
def execHalt (s : State) : Outcome :=
  finish (if s.prevNop then .ok { s with runState := .halt } else .error .haltWithoutNop)

/-- DI (45_cpu_control.md R251). -/
def execDi (s : State) : Outcome := finish (.ok { s with imr := setBit s.imr 7 false })

/-- EI (45_cpu_control.md R252). -/
def execEi (s : State) : Outcome := finish (.ok { s with imr := setBit s.imr 7 true })

/-- RCF (45_cpu_control.md R255). -/
def execRcf (s : State) : Outcome := setFlags { c := some false } s

/-- SCF (45_cpu_control.md R256). -/
def execScf (s : State) : Outcome := setFlags { c := some true } s

/-- CCF (45_cpu_control.md R250). -/
def execCcf (s : State) : Outcome := setFlags { c := some (!s.flag .c) } s

/-- NOP (45_cpu_control.md R254): every other instruction clears `prevNop`, this one sets it. -/
def execNop (s : State) : Outcome := .next { s.retire with prevNop := true }

end Sys2Proof.Machine
end

