-- ==== Sys2Proof/Machine/Load.lean ====
section
/-! DEFINITION. The load, clear and stack instructions (spec/43_load.md): CLR, LD, LDC, LDCI, LDE, LDEI, POP, PUSH. -/

namespace Sys2Proof.Machine

/-- LDC and LDE, load form: working register `n` from the memory byte pair `m` addresses (43_load.md R210, R212). -/
def loadByte (read : State → Word → Res Byte) (n m : Nibble) (s : State) : Outcome :=
  finish do
    let a ← s.readWrPair m
    let v ← read s a
    s.writeWr n v

/-- LDC and LDE, store form: working register `n` to the memory byte pair `m` addresses (43_load.md R210, R212). -/
def storeByte (write : State → Word → Byte → Res State) (n m : Nibble) (s : State) : Outcome :=
  finish do
    let a ← s.readWrPair m
    let v ← s.readWr .src n
    write s a v

/-- The Register Pointer's address (10_state.md R25). -/
def rpAddr : Byte := 0xFD

/-- LDCI and LDEI may not use one half of their pair as byte pointer (43_load.md R211), nor keep the byte pointer in RP,
which later sub-steps read to name the pair (10_state.md R38; DEDUCED, log 16). -/
def State.pointerClash (s : State) (n m : Nibble) : Bool := n == m || n == m + 1 || s.wrAddr n == rpAddr

/-- The loaded byte may not land on a pointer of the instruction (43_load.md R211), nor on RP, which later sub-steps read
(10_state.md R38; log 16). -/
def State.dataClash (s : State) (n m : Nibble) (ra : Byte) : Bool :=
  ra == s.wrAddr n || ra == s.wrAddr m || ra == s.wrAddr (m + 1) || ra == rpAddr

/-- `r <- r + 1; rr <- rr + 1` of LDCI and LDEI, wrapping (43_load.md R211, 20_memory.md R71). -/
def State.incPointers (s : State) (n m : Nibble) (ra : Byte) (a : Word) : Res State := do
  let s1 ← s.writeWr n (ra + 1)
  let s2 ← s1.writeWr m (hiByte (a + 1))
  s2.writeWr (m + 1) (loByte (a + 1))

/-- The byte pointer and the pair's address of LDCI and LDEI: a clash is found before anything is read (43_load.md R211,
R213). -/
def State.readPointers (s : State) (k : ReadSlot) (n m : Nibble) : Res (Byte × Word) := do
  if m.getLsbD 0 then .error .oddRegisterPair
  if s.pointerClash n m then .error .implicitExplicitClash
  let ra ← s.readWr k n
  let a ← s.readWrPair m
  return (ra, a)

/-- LDCI and LDEI, load form (43_load.md R211, R213). -/
def loadByteInc (read : State → Word → Res Byte) (n m : Nibble) (s : State) : Outcome :=
  finish do
    let (ra, a) ← s.readPointers .dstPtr n m
    if s.dataClash n m ra then .error .implicitExplicitClash
    let v ← read s a
    let s1 ← s.writeReg ra v
    s1.incPointers n m ra a

/-- LDCI and LDEI, store form (43_load.md R211, R213). -/
def storeByteInc (write : State → Word → Byte → Res State) (n m : Nibble) (s : State) : Outcome :=
  finish do
    let (ra, a) ← s.readPointers .srcPtr n m
    let v ← s.readReg .src ra
    let s1 ← write s a v
    s1.incPointers n m ra a

/-- The explicit operand of PUSH, POP and CALL may not be a half of the stack pointer (10_state.md R38). -/
def isStackPointer (a : Byte) : Bool := a == 0xFE || a == 0xFF

/-- POP: the destination's address is computed before SP moves (43_load.md R214). -/
def pop (dst : Place) (s : State) : Outcome :=
  finish do
    let a ← s.dstAddr dst
    if isStackPointer a then .error .implicitExplicitClash
    let (v, s1) ← s.pop8 .stack0
    s1.writeReg a v

/-- PUSH: the source is read before SP moves (43_load.md R215). -/
def push (src : Place) (s : State) : Outcome :=
  finish do
    let a ← s.placeAddr .srcPtr src
    if isStackPointer a then .error .implicitExplicitClash
    let v ← s.readReg .src a
    s.push8 v

/-- POP R (43_load.md R214). -/
def execPop_R (dst : RegOp) (s : State) : Outcome := pop (.reg dst) s

/-- POP IR (43_load.md R214). -/
def execPop_IR (dst : RegOp) (s : State) : Outcome := pop (.indirect dst) s

/-- PUSH R (43_load.md R215). -/
def execPush_R (src : RegOp) (s : State) : Outcome := push (.reg src) s

/-- PUSH IR (43_load.md R215). -/
def execPush_IR (src : RegOp) (s : State) : Outcome := push (.indirect src) s

/-- CLR R (43_load.md R200). -/
def execClr_R (dst : RegOp) (s : State) : Outcome := load (.reg dst) (.imm 0x00) s

/-- CLR IR (43_load.md R200). -/
def execClr_IR (dst : RegOp) (s : State) : Outcome := load (.indirect dst) (.imm 0x00) s

/-- LDC r,Irr (43_load.md R210). -/
def execLdc_r_Irr (dst : Nibble) (src : Nibble) (s : State) : Outcome := loadByte State.readProg dst src s

/-- LDC Irr,r (43_load.md R210). -/
def execLdc_Irr_r (dst : Nibble) (src : Nibble) (s : State) : Outcome := storeByte State.writeProg src dst s

/-- LDCI Ir,Irr (43_load.md R211). -/
def execLdci_Ir_Irr (dst : Nibble) (src : Nibble) (s : State) : Outcome := loadByteInc State.readProg dst src s

/-- LDCI Irr,Ir (43_load.md R211). -/
def execLdci_Irr_Ir (dst : Nibble) (src : Nibble) (s : State) : Outcome := storeByteInc State.writeProg src dst s

/-- LDE r,Irr (43_load.md R212). -/
def execLde_r_Irr (dst : Nibble) (src : Nibble) (s : State) : Outcome := loadByte State.readData dst src s

/-- LDE Irr,r (43_load.md R212). -/
def execLde_Irr_r (dst : Nibble) (src : Nibble) (s : State) : Outcome := storeByte State.writeData src dst s

/-- LDEI Ir,Irr (43_load.md R213). -/
def execLdei_Ir_Irr (dst : Nibble) (src : Nibble) (s : State) : Outcome := loadByteInc State.readData dst src s

/-- LDEI Irr,Ir (43_load.md R213). -/
def execLdei_Irr_Ir (dst : Nibble) (src : Nibble) (s : State) : Outcome := storeByteInc State.writeData src dst s

/-- LD r,Ir (43_load.md R205). -/
def execLd_r_Ir (dst : Nibble) (src : Nibble) (s : State) : Outcome := load (.r dst) (.place (.ir src)) s

/-- LD Ir,r (43_load.md R205). -/
def execLd_Ir_r (dst : Nibble) (src : Nibble) (s : State) : Outcome := load (.ir dst) (.place (.r src)) s

/-- LD R,R (43_load.md R206). -/
def execLd_R_R (dst : RegOp) (src : RegOp) (s : State) : Outcome := load (.reg dst) (.place (.reg src)) s

/-- LD R,IR (43_load.md R206). -/
def execLd_R_IR (dst : RegOp) (src : RegOp) (s : State) : Outcome := load (.reg dst) (.place (.indirect src)) s

/-- LD R,IM (43_load.md R206). -/
def execLd_R_IM (dst : RegOp) (src : Byte) (s : State) : Outcome := load (.reg dst) (.imm src) s

/-- LD IR,IM (43_load.md R206). -/
def execLd_IR_IM (dst : RegOp) (src : Byte) (s : State) : Outcome := load (.indirect dst) (.imm src) s

/-- LD IR,R (43_load.md R206). -/
def execLd_IR_R (dst : RegOp) (src : RegOp) (s : State) : Outcome := load (.indirect dst) (.place (.reg src)) s

/-- LD r,X (43_load.md R207). -/
def execLd_r_X (dst : Nibble) (index : Nibble) (offset : Byte) (s : State) : Outcome :=
  load (.r dst) (.place (.indexed index offset)) s

/-- LD X,r (43_load.md R207). -/
def execLd_X_r (index : Nibble) (offset : Byte) (src : Nibble) (s : State) : Outcome :=
  load (.indexed index offset) (.place (.r src)) s

/-- LD r,R (43_load.md R203). -/
def execLd_r_R (dst : Nibble) (src : RegOp) (s : State) : Outcome := load (.r dst) (.place (.reg src)) s

/-- LD R,r (43_load.md R204). -/
def execLd_R_r (dst : Byte) (src : Nibble) (s : State) : Outcome :=
  finish do
    if !fullAddress dst then .error .escapeInR9
    let v ← s.readWr .src src
    s.writeReg dst v

/-- LD r,IM (43_load.md R202). -/
def execLd_r_IM (dst : Nibble) (src : Byte) (s : State) : Outcome := load (.r dst) (.imm src) s

end Sys2Proof.Machine
end

