-- ==== Sys2Proof/Machine/Logical.lean ====
section
/-! DEFINITION. The logical and bit-test instructions (spec/41_logical.md): AND, COM, OR, XOR, TCM, TM. -/

namespace Sys2Proof.Machine

/-- A bitwise operation and its flags (41_logical.md R160). -/
def logicOp (f : Byte → Byte → Byte) (d s : Byte) (_c : Bool) : Byte × FlagUpd := (f d s, logicFlags (f d s))

/-- A bitwise test and its flags (41_logical.md R160). -/
def testOp (f : Byte → Byte → Byte) (d s : Byte) : Byte × FlagUpd := (f d s, logicFlags (f d s))

/-- COM (41_logical.md R162). -/
def comCore (d : Byte) : Byte × FlagUpd := (~~~d, logicFlags (~~~d))

/-- OR r,r (41_logical.md R163). -/
def execOr_r_r (dst : Nibble) (src : Nibble) (s : State) : Outcome :=
  alu2 (logicOp (· ||| ·)) (.r dst) (.place (.r src)) s

/-- OR r,Ir (41_logical.md R163). -/
def execOr_r_Ir (dst : Nibble) (src : Nibble) (s : State) : Outcome :=
  alu2 (logicOp (· ||| ·)) (.r dst) (.place (.ir src)) s

/-- OR R,R (41_logical.md R163). -/
def execOr_R_R (dst : RegOp) (src : RegOp) (s : State) : Outcome :=
  alu2 (logicOp (· ||| ·)) (.reg dst) (.place (.reg src)) s

/-- OR R,IR (41_logical.md R163). -/
def execOr_R_IR (dst : RegOp) (src : RegOp) (s : State) : Outcome :=
  alu2 (logicOp (· ||| ·)) (.reg dst) (.place (.indirect src)) s

/-- OR R,IM (41_logical.md R163). -/
def execOr_R_IM (dst : RegOp) (src : Byte) (s : State) : Outcome := alu2 (logicOp (· ||| ·)) (.reg dst) (.imm src) s

/-- OR IR,IM (41_logical.md R163). -/
def execOr_IR_IM (dst : RegOp) (src : Byte) (s : State) : Outcome :=
  alu2 (logicOp (· ||| ·)) (.indirect dst) (.imm src) s

/-- AND r,r (41_logical.md R161). -/
def execAnd_r_r (dst : Nibble) (src : Nibble) (s : State) : Outcome :=
  alu2 (logicOp (· &&& ·)) (.r dst) (.place (.r src)) s

/-- AND r,Ir (41_logical.md R161). -/
def execAnd_r_Ir (dst : Nibble) (src : Nibble) (s : State) : Outcome :=
  alu2 (logicOp (· &&& ·)) (.r dst) (.place (.ir src)) s

/-- AND R,R (41_logical.md R161). -/
def execAnd_R_R (dst : RegOp) (src : RegOp) (s : State) : Outcome :=
  alu2 (logicOp (· &&& ·)) (.reg dst) (.place (.reg src)) s

/-- AND R,IR (41_logical.md R161). -/
def execAnd_R_IR (dst : RegOp) (src : RegOp) (s : State) : Outcome :=
  alu2 (logicOp (· &&& ·)) (.reg dst) (.place (.indirect src)) s

/-- AND R,IM (41_logical.md R161). -/
def execAnd_R_IM (dst : RegOp) (src : Byte) (s : State) : Outcome := alu2 (logicOp (· &&& ·)) (.reg dst) (.imm src) s

/-- AND IR,IM (41_logical.md R161). -/
def execAnd_IR_IM (dst : RegOp) (src : Byte) (s : State) : Outcome :=
  alu2 (logicOp (· &&& ·)) (.indirect dst) (.imm src) s

/-- TCM r,r (41_logical.md R165). -/
def execTcm_r_r (dst : Nibble) (src : Nibble) (s : State) : Outcome :=
  test2 (testOp fun d s => ~~~d &&& s) (.r dst) (.place (.r src)) s

/-- TCM r,Ir (41_logical.md R165). -/
def execTcm_r_Ir (dst : Nibble) (src : Nibble) (s : State) : Outcome :=
  test2 (testOp fun d s => ~~~d &&& s) (.r dst) (.place (.ir src)) s

/-- TCM R,R (41_logical.md R165). -/
def execTcm_R_R (dst : RegOp) (src : RegOp) (s : State) : Outcome :=
  test2 (testOp fun d s => ~~~d &&& s) (.reg dst) (.place (.reg src)) s

/-- TCM R,IR (41_logical.md R165). -/
def execTcm_R_IR (dst : RegOp) (src : RegOp) (s : State) : Outcome :=
  test2 (testOp fun d s => ~~~d &&& s) (.reg dst) (.place (.indirect src)) s

/-- TCM R,IM (41_logical.md R165). -/
def execTcm_R_IM (dst : RegOp) (src : Byte) (s : State) : Outcome :=
  test2 (testOp fun d s => ~~~d &&& s) (.reg dst) (.imm src) s

/-- TCM IR,IM (41_logical.md R165). -/
def execTcm_IR_IM (dst : RegOp) (src : Byte) (s : State) : Outcome :=
  test2 (testOp fun d s => ~~~d &&& s) (.indirect dst) (.imm src) s

/-- TM r,r (41_logical.md R166). -/
def execTm_r_r (dst : Nibble) (src : Nibble) (s : State) : Outcome :=
  test2 (testOp (· &&& ·)) (.r dst) (.place (.r src)) s

/-- TM r,Ir (41_logical.md R166). -/
def execTm_r_Ir (dst : Nibble) (src : Nibble) (s : State) : Outcome :=
  test2 (testOp (· &&& ·)) (.r dst) (.place (.ir src)) s

/-- TM R,R (41_logical.md R166). -/
def execTm_R_R (dst : RegOp) (src : RegOp) (s : State) : Outcome :=
  test2 (testOp (· &&& ·)) (.reg dst) (.place (.reg src)) s

/-- TM R,IR (41_logical.md R166). -/
def execTm_R_IR (dst : RegOp) (src : RegOp) (s : State) : Outcome :=
  test2 (testOp (· &&& ·)) (.reg dst) (.place (.indirect src)) s

/-- TM R,IM (41_logical.md R166). -/
def execTm_R_IM (dst : RegOp) (src : Byte) (s : State) : Outcome := test2 (testOp (· &&& ·)) (.reg dst) (.imm src) s

/-- TM IR,IM (41_logical.md R166). -/
def execTm_IR_IM (dst : RegOp) (src : Byte) (s : State) : Outcome :=
  test2 (testOp (· &&& ·)) (.indirect dst) (.imm src) s

/-- XOR r,r (41_logical.md R164). -/
def execXor_r_r (dst : Nibble) (src : Nibble) (s : State) : Outcome :=
  alu2 (logicOp (· ^^^ ·)) (.r dst) (.place (.r src)) s

/-- XOR r,Ir (41_logical.md R164). -/
def execXor_r_Ir (dst : Nibble) (src : Nibble) (s : State) : Outcome :=
  alu2 (logicOp (· ^^^ ·)) (.r dst) (.place (.ir src)) s

/-- XOR R,R (41_logical.md R164). -/
def execXor_R_R (dst : RegOp) (src : RegOp) (s : State) : Outcome :=
  alu2 (logicOp (· ^^^ ·)) (.reg dst) (.place (.reg src)) s

/-- XOR R,IR (41_logical.md R164). -/
def execXor_R_IR (dst : RegOp) (src : RegOp) (s : State) : Outcome :=
  alu2 (logicOp (· ^^^ ·)) (.reg dst) (.place (.indirect src)) s

/-- XOR R,IM (41_logical.md R164). -/
def execXor_R_IM (dst : RegOp) (src : Byte) (s : State) : Outcome := alu2 (logicOp (· ^^^ ·)) (.reg dst) (.imm src) s

/-- XOR IR,IM (41_logical.md R164). -/
def execXor_IR_IM (dst : RegOp) (src : Byte) (s : State) : Outcome :=
  alu2 (logicOp (· ^^^ ·)) (.indirect dst) (.imm src) s

/-- COM R (41_logical.md R162). -/
def execCom_R (dst : RegOp) (s : State) : Outcome := alu1 (plain comCore) (.reg dst) s

/-- COM IR (41_logical.md R162). -/
def execCom_IR (dst : RegOp) (s : State) : Outcome := alu1 (plain comCore) (.indirect dst) s

end Sys2Proof.Machine
end

