-- ==== Sys2Proof/Machine/RotateShift.lean ====
section
/-! DEFINITION. The rotate, shift and nibble-swap instructions (spec/42_rotate_shift.md): RL, RLC, RR, RRC, SRA, SWAP. -/

namespace Sys2Proof.Machine

/-- RLC R (42_rotate_shift.md R182). -/
def execRlc_R (dst : RegOp) (s : State) : Outcome := alu1 rlcCore (.reg dst) s

/-- RLC IR (42_rotate_shift.md R182). -/
def execRlc_IR (dst : RegOp) (s : State) : Outcome := alu1 rlcCore (.indirect dst) s

/-- RL R (42_rotate_shift.md R181). -/
def execRl_R (dst : RegOp) (s : State) : Outcome := alu1 rlCore (.reg dst) s

/-- RL IR (42_rotate_shift.md R181). -/
def execRl_IR (dst : RegOp) (s : State) : Outcome := alu1 rlCore (.indirect dst) s

/-- RRC R (42_rotate_shift.md R184). -/
def execRrc_R (dst : RegOp) (s : State) : Outcome := alu1 rrcCore (.reg dst) s

/-- RRC IR (42_rotate_shift.md R184). -/
def execRrc_IR (dst : RegOp) (s : State) : Outcome := alu1 rrcCore (.indirect dst) s

/-- SRA R (42_rotate_shift.md R185). -/
def execSra_R (dst : RegOp) (s : State) : Outcome := alu1 sraCore (.reg dst) s

/-- SRA IR (42_rotate_shift.md R185). -/
def execSra_IR (dst : RegOp) (s : State) : Outcome := alu1 sraCore (.indirect dst) s

/-- RR R (42_rotate_shift.md R183). -/
def execRr_R (dst : RegOp) (s : State) : Outcome := alu1 rrCore (.reg dst) s

/-- RR IR (42_rotate_shift.md R183). -/
def execRr_IR (dst : RegOp) (s : State) : Outcome := alu1 rrCore (.indirect dst) s

/-- SWAP R (42_rotate_shift.md R186). -/
def execSwap_R (dst : RegOp) (s : State) : Outcome :=
  alu1 (fun d _ => swapCore d (Config.freeFlag s.time .v)) (.reg dst) s

/-- SWAP IR (42_rotate_shift.md R186). -/
def execSwap_IR (dst : RegOp) (s : State) : Outcome :=
  alu1 (fun d _ => swapCore d (Config.freeFlag s.time .v)) (.indirect dst) s

end Sys2Proof.Machine
end

