-- ==== Sys2Proof/Machine/Dispatch.lean ====
section
/-! DEFINITION. From each constructor of Instr to its meaning. -/

namespace Sys2Proof.Machine

def exec (i : Instr) (s : State) : Host.Outcome State Fault Refusal :=
  match i with
  | .add_r_r dst src => Sys2Proof.Machine.execAdd_r_r dst src s
  | .add_r_Ir dst src => Sys2Proof.Machine.execAdd_r_Ir dst src s
  | .add_R_R dst src => Sys2Proof.Machine.execAdd_R_R dst src s
  | .add_R_IR dst src => Sys2Proof.Machine.execAdd_R_IR dst src s
  | .add_R_IM dst src => Sys2Proof.Machine.execAdd_R_IM dst src s
  | .add_IR_IM dst src => Sys2Proof.Machine.execAdd_IR_IM dst src s
  | .adc_r_r dst src => Sys2Proof.Machine.execAdc_r_r dst src s
  | .adc_r_Ir dst src => Sys2Proof.Machine.execAdc_r_Ir dst src s
  | .adc_R_R dst src => Sys2Proof.Machine.execAdc_R_R dst src s
  | .adc_R_IR dst src => Sys2Proof.Machine.execAdc_R_IR dst src s
  | .adc_R_IM dst src => Sys2Proof.Machine.execAdc_R_IM dst src s
  | .adc_IR_IM dst src => Sys2Proof.Machine.execAdc_IR_IM dst src s
  | .sub_r_r dst src => Sys2Proof.Machine.execSub_r_r dst src s
  | .sub_r_Ir dst src => Sys2Proof.Machine.execSub_r_Ir dst src s
  | .sub_R_R dst src => Sys2Proof.Machine.execSub_R_R dst src s
  | .sub_R_IR dst src => Sys2Proof.Machine.execSub_R_IR dst src s
  | .sub_R_IM dst src => Sys2Proof.Machine.execSub_R_IM dst src s
  | .sub_IR_IM dst src => Sys2Proof.Machine.execSub_IR_IM dst src s
  | .sbc_r_r dst src => Sys2Proof.Machine.execSbc_r_r dst src s
  | .sbc_r_Ir dst src => Sys2Proof.Machine.execSbc_r_Ir dst src s
  | .sbc_R_R dst src => Sys2Proof.Machine.execSbc_R_R dst src s
  | .sbc_R_IR dst src => Sys2Proof.Machine.execSbc_R_IR dst src s
  | .sbc_R_IM dst src => Sys2Proof.Machine.execSbc_R_IM dst src s
  | .sbc_IR_IM dst src => Sys2Proof.Machine.execSbc_IR_IM dst src s
  | .or_r_r dst src => Sys2Proof.Machine.execOr_r_r dst src s
  | .or_r_Ir dst src => Sys2Proof.Machine.execOr_r_Ir dst src s
  | .or_R_R dst src => Sys2Proof.Machine.execOr_R_R dst src s
  | .or_R_IR dst src => Sys2Proof.Machine.execOr_R_IR dst src s
  | .or_R_IM dst src => Sys2Proof.Machine.execOr_R_IM dst src s
  | .or_IR_IM dst src => Sys2Proof.Machine.execOr_IR_IM dst src s
  | .and_r_r dst src => Sys2Proof.Machine.execAnd_r_r dst src s
  | .and_r_Ir dst src => Sys2Proof.Machine.execAnd_r_Ir dst src s
  | .and_R_R dst src => Sys2Proof.Machine.execAnd_R_R dst src s
  | .and_R_IR dst src => Sys2Proof.Machine.execAnd_R_IR dst src s
  | .and_R_IM dst src => Sys2Proof.Machine.execAnd_R_IM dst src s
  | .and_IR_IM dst src => Sys2Proof.Machine.execAnd_IR_IM dst src s
  | .tcm_r_r dst src => Sys2Proof.Machine.execTcm_r_r dst src s
  | .tcm_r_Ir dst src => Sys2Proof.Machine.execTcm_r_Ir dst src s
  | .tcm_R_R dst src => Sys2Proof.Machine.execTcm_R_R dst src s
  | .tcm_R_IR dst src => Sys2Proof.Machine.execTcm_R_IR dst src s
  | .tcm_R_IM dst src => Sys2Proof.Machine.execTcm_R_IM dst src s
  | .tcm_IR_IM dst src => Sys2Proof.Machine.execTcm_IR_IM dst src s
  | .tm_r_r dst src => Sys2Proof.Machine.execTm_r_r dst src s
  | .tm_r_Ir dst src => Sys2Proof.Machine.execTm_r_Ir dst src s
  | .tm_R_R dst src => Sys2Proof.Machine.execTm_R_R dst src s
  | .tm_R_IR dst src => Sys2Proof.Machine.execTm_R_IR dst src s
  | .tm_R_IM dst src => Sys2Proof.Machine.execTm_R_IM dst src s
  | .tm_IR_IM dst src => Sys2Proof.Machine.execTm_IR_IM dst src s
  | .cp_r_r dst src => Sys2Proof.Machine.execCp_r_r dst src s
  | .cp_r_Ir dst src => Sys2Proof.Machine.execCp_r_Ir dst src s
  | .cp_R_R dst src => Sys2Proof.Machine.execCp_R_R dst src s
  | .cp_R_IR dst src => Sys2Proof.Machine.execCp_R_IR dst src s
  | .cp_R_IM dst src => Sys2Proof.Machine.execCp_R_IM dst src s
  | .cp_IR_IM dst src => Sys2Proof.Machine.execCp_IR_IM dst src s
  | .xor_r_r dst src => Sys2Proof.Machine.execXor_r_r dst src s
  | .xor_r_Ir dst src => Sys2Proof.Machine.execXor_r_Ir dst src s
  | .xor_R_R dst src => Sys2Proof.Machine.execXor_R_R dst src s
  | .xor_R_IR dst src => Sys2Proof.Machine.execXor_R_IR dst src s
  | .xor_R_IM dst src => Sys2Proof.Machine.execXor_R_IM dst src s
  | .xor_IR_IM dst src => Sys2Proof.Machine.execXor_IR_IM dst src s
  | .dec_R dst => Sys2Proof.Machine.execDec_R dst s
  | .dec_IR dst => Sys2Proof.Machine.execDec_IR dst s
  | .rlc_R dst => Sys2Proof.Machine.execRlc_R dst s
  | .rlc_IR dst => Sys2Proof.Machine.execRlc_IR dst s
  | .inc_R dst => Sys2Proof.Machine.execInc_R dst s
  | .inc_IR dst => Sys2Proof.Machine.execInc_IR dst s
  | .da_R dst => Sys2Proof.Machine.execDa_R dst s
  | .da_IR dst => Sys2Proof.Machine.execDa_IR dst s
  | .pop_R dst => Sys2Proof.Machine.execPop_R dst s
  | .pop_IR dst => Sys2Proof.Machine.execPop_IR dst s
  | .com_R dst => Sys2Proof.Machine.execCom_R dst s
  | .com_IR dst => Sys2Proof.Machine.execCom_IR dst s
  | .push_R src => Sys2Proof.Machine.execPush_R src s
  | .push_IR src => Sys2Proof.Machine.execPush_IR src s
  | .decw_RR dst => Sys2Proof.Machine.execDecw_RR dst s
  | .decw_IR dst => Sys2Proof.Machine.execDecw_IR dst s
  | .rl_R dst => Sys2Proof.Machine.execRl_R dst s
  | .rl_IR dst => Sys2Proof.Machine.execRl_IR dst s
  | .incw_RR dst => Sys2Proof.Machine.execIncw_RR dst s
  | .incw_IR dst => Sys2Proof.Machine.execIncw_IR dst s
  | .clr_R dst => Sys2Proof.Machine.execClr_R dst s
  | .clr_IR dst => Sys2Proof.Machine.execClr_IR dst s
  | .rrc_R dst => Sys2Proof.Machine.execRrc_R dst s
  | .rrc_IR dst => Sys2Proof.Machine.execRrc_IR dst s
  | .sra_R dst => Sys2Proof.Machine.execSra_R dst s
  | .sra_IR dst => Sys2Proof.Machine.execSra_IR dst s
  | .rr_R dst => Sys2Proof.Machine.execRr_R dst s
  | .rr_IR dst => Sys2Proof.Machine.execRr_IR dst s
  | .swap_R dst => Sys2Proof.Machine.execSwap_R dst s
  | .swap_IR dst => Sys2Proof.Machine.execSwap_IR dst s
  | .jp_IRR dst => Sys2Proof.Machine.execJp_IRR dst s
  | .srp_IM src => Sys2Proof.Machine.execSrp_IM src s
  | .call_IRR dst => Sys2Proof.Machine.execCall_IRR dst s
  | .call_DA dst => Sys2Proof.Machine.execCall_DA dst s
  | .ldc_r_Irr dst src => Sys2Proof.Machine.execLdc_r_Irr dst src s
  | .ldc_Irr_r dst src => Sys2Proof.Machine.execLdc_Irr_r dst src s
  | .ldci_Ir_Irr dst src => Sys2Proof.Machine.execLdci_Ir_Irr dst src s
  | .ldci_Irr_Ir dst src => Sys2Proof.Machine.execLdci_Irr_Ir dst src s
  | .lde_r_Irr dst src => Sys2Proof.Machine.execLde_r_Irr dst src s
  | .lde_Irr_r dst src => Sys2Proof.Machine.execLde_Irr_r dst src s
  | .ldei_Ir_Irr dst src => Sys2Proof.Machine.execLdei_Ir_Irr dst src s
  | .ldei_Irr_Ir dst src => Sys2Proof.Machine.execLdei_Irr_Ir dst src s
  | .ld_r_Ir dst src => Sys2Proof.Machine.execLd_r_Ir dst src s
  | .ld_Ir_r dst src => Sys2Proof.Machine.execLd_Ir_r dst src s
  | .ld_R_R dst src => Sys2Proof.Machine.execLd_R_R dst src s
  | .ld_R_IR dst src => Sys2Proof.Machine.execLd_R_IR dst src s
  | .ld_R_IM dst src => Sys2Proof.Machine.execLd_R_IM dst src s
  | .ld_IR_IM dst src => Sys2Proof.Machine.execLd_IR_IM dst src s
  | .ld_IR_R dst src => Sys2Proof.Machine.execLd_IR_R dst src s
  | .ld_r_X dst index offset => Sys2Proof.Machine.execLd_r_X dst index offset s
  | .ld_X_r index offset src => Sys2Proof.Machine.execLd_X_r index offset src s
  | .ld_r_R dst src => Sys2Proof.Machine.execLd_r_R dst src s
  | .ld_R_r dst src => Sys2Proof.Machine.execLd_R_r dst src s
  | .djnz_r_RA r dst => Sys2Proof.Machine.execDjnz_r_RA r dst s
  | .jr_cc_RA cc dst => Sys2Proof.Machine.execJr_cc_RA cc dst s
  | .ld_r_IM dst src => Sys2Proof.Machine.execLd_r_IM dst src s
  | .jp_cc_DA cc dst => Sys2Proof.Machine.execJp_cc_DA cc dst s
  | .inc_r dst => Sys2Proof.Machine.execInc_r dst s
  | .wdh => Sys2Proof.Machine.execWdh s
  | .wdt => Sys2Proof.Machine.execWdt s
  | .stop => Sys2Proof.Machine.execStop s
  | .halt => Sys2Proof.Machine.execHalt s
  | .di => Sys2Proof.Machine.execDi s
  | .ei => Sys2Proof.Machine.execEi s
  | .ret => Sys2Proof.Machine.execRet s
  | .iret => Sys2Proof.Machine.execIret s
  | .rcf => Sys2Proof.Machine.execRcf s
  | .scf => Sys2Proof.Machine.execScf s
  | .ccf => Sys2Proof.Machine.execCcf s
  | .nop => Sys2Proof.Machine.execNop s

end Sys2Proof.Machine
end

