-- ==== Sys2Proof/Machine/Step.lean ====
section
/-! DEFINITION. One step of the machine: one turn of the schedule, the CPU's when the schedule is used up (log 9). -/

namespace Sys2Proof.Machine

/-- One step of the CPU: in RUN it fetches, decodes and executes one whole instruction (spec/00_scope.md R12). -/
def cpuStep (s : State) : Outcome :=
  match s.runState with
  | .run =>
    match s.fetchInstr with
    | .ok i => exec i s.advance
    | .error f => .fault f
  | .halt => haltStep s
  | .stop => stopStep s

/-- One step of the machine (spec/00_scope.md R12; log 9). -/
def step (s : State) : Host.Outcome State Fault Refusal :=
  match s.inputs with
  | [] => cpuStep s
  | .cpu :: rest => cpuStep { s with inputs := rest }
  | .env e :: rest => environment e { s with inputs := rest }

/-- `s` with the table word `w` where step fetches its next instruction: the CPU runs and has the next turn (the host's
fixed name; log 18). -/
def State.withFetchWord (s : State) (nbits w : Nat) : State :=
  { s.placeWord nbits w with runState := .run, inputs := [] }

end Sys2Proof.Machine
end

