-- ==== Sys2Proof/Safety.lean ====
section
/-! DEFINITION. The terms the claims use: what the registers hold, the invariant, what each instruction may touch
(spec/10_state.md R34 and each instruction's Operation line), the forms instructions share, and what a result must satisfy. -/

namespace Sys2Proof.Machine

/-! ## Safe runs -/

/-- What a register holds; the oracle's registers hold nothing (spec/20_memory.md R69). -/
def State.held (s : State) : RegLoc → Byte
  | .device _ => 0
  | l => s.valueAt .src l

/-- The step gives a next state: neither a fault nor a refusal. -/
def State.goesOn (s : State) : Prop := ∃ t, step s = .next t

/-- What holds of every state a run from reset reaches. -/
structure State.Inv (s : State) : Prop where
  /-- the part is one the spec admits -/
  chip : s.chip.wf = true
  /-- program memory is in canonical form -/
  prog : memWf s.prog = true
  /-- external data memory is in canonical form -/
  data : memWf s.data = true
  /-- only a part with a Watch-Dog has one enabled (45_cpu_control.md R260) -/
  wdtPart : s.wdtEnabled = true → s.chip.wdt = true
  /-- the Watch-Dog counts in HALT only once it is enabled (60_exceptions.md R295) -/
  wdtHalt : s.wdtInHalt = true → s.wdtEnabled = true
  /-- the Watch-Dog has not reached its terminal count (60_exceptions.md R294) -/
  wdtCount : s.wdtCount = 0 ∨ s.wdtCount < s.chip.wdtTimeout
  /-- only sources the part has are pending (60_exceptions.md R281, R283) -/
  pending : ∀ n, s.pending.getLsbD n = true → n < s.chip.nIrq
  /-- a NOP was the last instruction only of a running CPU (10_state.md R45) -/
  nop : s.prevNop = true → s.runState = .run

/-! ## What an instruction may touch -/

/-- The register at an address, if the address can be formed. -/
def State.locAt (s : State) : Res Byte → List RegLoc
  | .ok a => [s.loc a]
  | .error _ => []

/-- The two registers of the pair at an address. -/
def State.pairAt (s : State) : Res Byte → List RegLoc
  | .ok a => [s.loc a, s.loc (a + 1)]
  | .error _ => []

/-- The registers that hold the stack pointer (10_state.md R31). -/
def State.spLocs (s : State) : List RegLoc := if s.chip.stackExternal then [.sph, .spl] else [.spl]

/-- The stack addresses PUSH and CALL write (10_state.md R32). -/
def State.pushAddrs8 (s : State) : List Word := [s.stackAddr (s.sp - 1)]
def State.pushAddrs16 (s : State) : List Word :=
  [s.stackAddr (s.sp - 2), s.stackAddr (s.stackAddr (s.sp - 2) + 1)]

/-- The registers that stack addresses are, for an internal stack. -/
def State.stackLocs (s : State) (as : List Word) : List RegLoc :=
  if s.chip.stackExternal then [] else as.map fun a => s.loc (loByte a)

/-- The bytes of external data memory that stack addresses are, for an external stack. -/
def State.stackBytes (s : State) (as : List Word) : List Word := if s.chip.stackExternal then as else []

/-- The pointers LDCI and LDEI move: working register `n` and pair `m` (43_load.md R211). -/
def State.pointerLocs (s : State) (n m : Nibble) : List RegLoc :=
  [s.loc (s.wrAddr n), s.loc (s.wrAddr m), s.loc (s.wrAddr (m + 1))]

/-- The address a store through working register pair `m` goes to. -/
def State.pairTarget (s : State) (m : Nibble) : List Word :=
  match s.readWrPair m with
  | .ok a => [a]
  | .error _ => []

/-- The registers an instruction writes, less the flags it sets from its result: its destination, and every register it
moves along (stack pointer, pointers, IMR). -/
def destLocs (i : Instr) (s : State) : List RegLoc :=
  match i with
  | .add_r_r dst _ => s.locAt (s.dstAddr (.r dst))
  | .add_r_Ir dst _ => s.locAt (s.dstAddr (.r dst))
  | .add_R_R dst _ => s.locAt (s.dstAddr (.reg dst))
  | .add_R_IR dst _ => s.locAt (s.dstAddr (.reg dst))
  | .add_R_IM dst _ => s.locAt (s.dstAddr (.reg dst))
  | .add_IR_IM dst _ => s.locAt (s.dstAddr (.indirect dst))
  | .adc_r_r dst _ => s.locAt (s.dstAddr (.r dst))
  | .adc_r_Ir dst _ => s.locAt (s.dstAddr (.r dst))
  | .adc_R_R dst _ => s.locAt (s.dstAddr (.reg dst))
  | .adc_R_IR dst _ => s.locAt (s.dstAddr (.reg dst))
  | .adc_R_IM dst _ => s.locAt (s.dstAddr (.reg dst))
  | .adc_IR_IM dst _ => s.locAt (s.dstAddr (.indirect dst))
  | .sub_r_r dst _ => s.locAt (s.dstAddr (.r dst))
  | .sub_r_Ir dst _ => s.locAt (s.dstAddr (.r dst))
  | .sub_R_R dst _ => s.locAt (s.dstAddr (.reg dst))
  | .sub_R_IR dst _ => s.locAt (s.dstAddr (.reg dst))
  | .sub_R_IM dst _ => s.locAt (s.dstAddr (.reg dst))
  | .sub_IR_IM dst _ => s.locAt (s.dstAddr (.indirect dst))
  | .sbc_r_r dst _ => s.locAt (s.dstAddr (.r dst))
  | .sbc_r_Ir dst _ => s.locAt (s.dstAddr (.r dst))
  | .sbc_R_R dst _ => s.locAt (s.dstAddr (.reg dst))
  | .sbc_R_IR dst _ => s.locAt (s.dstAddr (.reg dst))
  | .sbc_R_IM dst _ => s.locAt (s.dstAddr (.reg dst))
  | .sbc_IR_IM dst _ => s.locAt (s.dstAddr (.indirect dst))
  | .or_r_r dst _ => s.locAt (s.dstAddr (.r dst))
  | .or_r_Ir dst _ => s.locAt (s.dstAddr (.r dst))
  | .or_R_R dst _ => s.locAt (s.dstAddr (.reg dst))
  | .or_R_IR dst _ => s.locAt (s.dstAddr (.reg dst))
  | .or_R_IM dst _ => s.locAt (s.dstAddr (.reg dst))
  | .or_IR_IM dst _ => s.locAt (s.dstAddr (.indirect dst))
  | .and_r_r dst _ => s.locAt (s.dstAddr (.r dst))
  | .and_r_Ir dst _ => s.locAt (s.dstAddr (.r dst))
  | .and_R_R dst _ => s.locAt (s.dstAddr (.reg dst))
  | .and_R_IR dst _ => s.locAt (s.dstAddr (.reg dst))
  | .and_R_IM dst _ => s.locAt (s.dstAddr (.reg dst))
  | .and_IR_IM dst _ => s.locAt (s.dstAddr (.indirect dst))
  | .tcm_r_r _ _ => []
  | .tcm_r_Ir _ _ => []
  | .tcm_R_R _ _ => []
  | .tcm_R_IR _ _ => []
  | .tcm_R_IM _ _ => []
  | .tcm_IR_IM _ _ => []
  | .tm_r_r _ _ => []
  | .tm_r_Ir _ _ => []
  | .tm_R_R _ _ => []
  | .tm_R_IR _ _ => []
  | .tm_R_IM _ _ => []
  | .tm_IR_IM _ _ => []
  | .cp_r_r _ _ => []
  | .cp_r_Ir _ _ => []
  | .cp_R_R _ _ => []
  | .cp_R_IR _ _ => []
  | .cp_R_IM _ _ => []
  | .cp_IR_IM _ _ => []
  | .xor_r_r dst _ => s.locAt (s.dstAddr (.r dst))
  | .xor_r_Ir dst _ => s.locAt (s.dstAddr (.r dst))
  | .xor_R_R dst _ => s.locAt (s.dstAddr (.reg dst))
  | .xor_R_IR dst _ => s.locAt (s.dstAddr (.reg dst))
  | .xor_R_IM dst _ => s.locAt (s.dstAddr (.reg dst))
  | .xor_IR_IM dst _ => s.locAt (s.dstAddr (.indirect dst))
  | .dec_R dst => s.locAt (s.dstAddr (.reg dst))
  | .dec_IR dst => s.locAt (s.dstAddr (.indirect dst))
  | .rlc_R dst => s.locAt (s.dstAddr (.reg dst))
  | .rlc_IR dst => s.locAt (s.dstAddr (.indirect dst))
  | .inc_R dst => s.locAt (s.dstAddr (.reg dst))
  | .inc_IR dst => s.locAt (s.dstAddr (.indirect dst))
  | .da_R dst => s.locAt (s.dstAddr (.reg dst))
  | .da_IR dst => s.locAt (s.dstAddr (.indirect dst))
  | .pop_R dst => s.spLocs ++ s.locAt (s.dstAddr (.reg dst))
  | .pop_IR dst => s.spLocs ++ s.locAt (s.dstAddr (.indirect dst))
  | .com_R dst => s.locAt (s.dstAddr (.reg dst))
  | .com_IR dst => s.locAt (s.dstAddr (.indirect dst))
  | .push_R _ => s.spLocs ++ s.stackLocs s.pushAddrs8
  | .push_IR _ => s.spLocs ++ s.stackLocs s.pushAddrs8
  | .decw_RR dst => s.pairAt (.ok (s.regAddr dst))
  | .decw_IR dst => s.pairAt (s.readReg .dstPtr (s.regAddr dst))
  | .rl_R dst => s.locAt (s.dstAddr (.reg dst))
  | .rl_IR dst => s.locAt (s.dstAddr (.indirect dst))
  | .incw_RR dst => s.pairAt (.ok (s.regAddr dst))
  | .incw_IR dst => s.pairAt (s.readReg .dstPtr (s.regAddr dst))
  | .clr_R dst => s.locAt (s.dstAddr (.reg dst))
  | .clr_IR dst => s.locAt (s.dstAddr (.indirect dst))
  | .rrc_R dst => s.locAt (s.dstAddr (.reg dst))
  | .rrc_IR dst => s.locAt (s.dstAddr (.indirect dst))
  | .sra_R dst => s.locAt (s.dstAddr (.reg dst))
  | .sra_IR dst => s.locAt (s.dstAddr (.indirect dst))
  | .rr_R dst => s.locAt (s.dstAddr (.reg dst))
  | .rr_IR dst => s.locAt (s.dstAddr (.indirect dst))
  | .swap_R dst => s.locAt (s.dstAddr (.reg dst))
  | .swap_IR dst => s.locAt (s.dstAddr (.indirect dst))
  | .jp_IRR _ => []
  | .srp_IM _ => [.rp]
  | .call_IRR _ => s.spLocs ++ s.stackLocs s.pushAddrs16
  | .call_DA _ => s.spLocs ++ s.stackLocs s.pushAddrs16
  | .ldc_r_Irr dst _ => [s.loc (s.wrAddr dst)]
  | .ldc_Irr_r _ _ => []
  | .ldci_Ir_Irr dst src => s.pointerLocs dst src ++ s.locAt (s.readWr .dstPtr dst)
  | .ldci_Irr_Ir dst src => s.pointerLocs src dst
  | .lde_r_Irr dst _ => [s.loc (s.wrAddr dst)]
  | .lde_Irr_r _ _ => []
  | .ldei_Ir_Irr dst src => s.pointerLocs dst src ++ s.locAt (s.readWr .dstPtr dst)
  | .ldei_Irr_Ir dst src => s.pointerLocs src dst
  | .ld_r_Ir dst _ => s.locAt (s.dstAddr (.r dst))
  | .ld_Ir_r dst _ => s.locAt (s.dstAddr (.ir dst))
  | .ld_R_R dst _ => s.locAt (s.dstAddr (.reg dst))
  | .ld_R_IR dst _ => s.locAt (s.dstAddr (.reg dst))
  | .ld_R_IM dst _ => s.locAt (s.dstAddr (.reg dst))
  | .ld_IR_IM dst _ => s.locAt (s.dstAddr (.indirect dst))
  | .ld_IR_R dst _ => s.locAt (s.dstAddr (.indirect dst))
  | .ld_r_X dst _ _ => s.locAt (s.dstAddr (.r dst))
  | .ld_X_r index offset _ => s.locAt (s.dstAddr (.indexed index offset))
  | .ld_r_R dst _ => s.locAt (s.dstAddr (.r dst))
  | .ld_R_r dst _ => [s.loc dst]
  | .djnz_r_RA r _ => [s.loc (s.wrAddr r)]
  | .jr_cc_RA _ _ => []
  | .ld_r_IM dst _ => s.locAt (s.dstAddr (.r dst))
  | .jp_cc_DA _ _ => []
  | .inc_r dst => s.locAt (s.dstAddr (.r dst))
  | .wdh => []
  | .wdt => []
  | .stop => []
  | .halt => []
  | .di => [.imr]
  | .ei => [.imr]
  | .ret => s.spLocs
  | .iret => .flags :: .imr :: s.spLocs
  | .rcf => []
  | .scf => []
  | .ccf => []
  | .nop => []

/-- The flags an instruction sets, clears or leaves undefined (10_state.md R34). -/
def flagsOf : Instr → List Flag
  | .add_r_r _ _ => [.c, .z, .s, .v, .d, .h]
  | .add_r_Ir _ _ => [.c, .z, .s, .v, .d, .h]
  | .add_R_R _ _ => [.c, .z, .s, .v, .d, .h]
  | .add_R_IR _ _ => [.c, .z, .s, .v, .d, .h]
  | .add_R_IM _ _ => [.c, .z, .s, .v, .d, .h]
  | .add_IR_IM _ _ => [.c, .z, .s, .v, .d, .h]
  | .adc_r_r _ _ => [.c, .z, .s, .v, .d, .h]
  | .adc_r_Ir _ _ => [.c, .z, .s, .v, .d, .h]
  | .adc_R_R _ _ => [.c, .z, .s, .v, .d, .h]
  | .adc_R_IR _ _ => [.c, .z, .s, .v, .d, .h]
  | .adc_R_IM _ _ => [.c, .z, .s, .v, .d, .h]
  | .adc_IR_IM _ _ => [.c, .z, .s, .v, .d, .h]
  | .sub_r_r _ _ => [.c, .z, .s, .v, .d, .h]
  | .sub_r_Ir _ _ => [.c, .z, .s, .v, .d, .h]
  | .sub_R_R _ _ => [.c, .z, .s, .v, .d, .h]
  | .sub_R_IR _ _ => [.c, .z, .s, .v, .d, .h]
  | .sub_R_IM _ _ => [.c, .z, .s, .v, .d, .h]
  | .sub_IR_IM _ _ => [.c, .z, .s, .v, .d, .h]
  | .sbc_r_r _ _ => [.c, .z, .s, .v, .d, .h]
  | .sbc_r_Ir _ _ => [.c, .z, .s, .v, .d, .h]
  | .sbc_R_R _ _ => [.c, .z, .s, .v, .d, .h]
  | .sbc_R_IR _ _ => [.c, .z, .s, .v, .d, .h]
  | .sbc_R_IM _ _ => [.c, .z, .s, .v, .d, .h]
  | .sbc_IR_IM _ _ => [.c, .z, .s, .v, .d, .h]
  | .or_r_r _ _ => [.z, .s, .v]
  | .or_r_Ir _ _ => [.z, .s, .v]
  | .or_R_R _ _ => [.z, .s, .v]
  | .or_R_IR _ _ => [.z, .s, .v]
  | .or_R_IM _ _ => [.z, .s, .v]
  | .or_IR_IM _ _ => [.z, .s, .v]
  | .and_r_r _ _ => [.z, .s, .v]
  | .and_r_Ir _ _ => [.z, .s, .v]
  | .and_R_R _ _ => [.z, .s, .v]
  | .and_R_IR _ _ => [.z, .s, .v]
  | .and_R_IM _ _ => [.z, .s, .v]
  | .and_IR_IM _ _ => [.z, .s, .v]
  | .tcm_r_r _ _ => [.z, .s, .v]
  | .tcm_r_Ir _ _ => [.z, .s, .v]
  | .tcm_R_R _ _ => [.z, .s, .v]
  | .tcm_R_IR _ _ => [.z, .s, .v]
  | .tcm_R_IM _ _ => [.z, .s, .v]
  | .tcm_IR_IM _ _ => [.z, .s, .v]
  | .tm_r_r _ _ => [.z, .s, .v]
  | .tm_r_Ir _ _ => [.z, .s, .v]
  | .tm_R_R _ _ => [.z, .s, .v]
  | .tm_R_IR _ _ => [.z, .s, .v]
  | .tm_R_IM _ _ => [.z, .s, .v]
  | .tm_IR_IM _ _ => [.z, .s, .v]
  | .cp_r_r _ _ => [.c, .z, .s, .v]
  | .cp_r_Ir _ _ => [.c, .z, .s, .v]
  | .cp_R_R _ _ => [.c, .z, .s, .v]
  | .cp_R_IR _ _ => [.c, .z, .s, .v]
  | .cp_R_IM _ _ => [.c, .z, .s, .v]
  | .cp_IR_IM _ _ => [.c, .z, .s, .v]
  | .xor_r_r _ _ => [.z, .s, .v]
  | .xor_r_Ir _ _ => [.z, .s, .v]
  | .xor_R_R _ _ => [.z, .s, .v]
  | .xor_R_IR _ _ => [.z, .s, .v]
  | .xor_R_IM _ _ => [.z, .s, .v]
  | .xor_IR_IM _ _ => [.z, .s, .v]
  | .dec_R _ => [.z, .s, .v]
  | .dec_IR _ => [.z, .s, .v]
  | .rlc_R _ => [.c, .z, .s, .v]
  | .rlc_IR _ => [.c, .z, .s, .v]
  | .inc_R _ => [.z, .s, .v]
  | .inc_IR _ => [.z, .s, .v]
  | .da_R _ => [.c, .z, .s, .v]
  | .da_IR _ => [.c, .z, .s, .v]
  | .pop_R _ => []
  | .pop_IR _ => []
  | .com_R _ => [.z, .s, .v]
  | .com_IR _ => [.z, .s, .v]
  | .push_R _ => []
  | .push_IR _ => []
  | .decw_RR _ => [.z, .s, .v]
  | .decw_IR _ => [.z, .s, .v]
  | .rl_R _ => [.c, .z, .s, .v]
  | .rl_IR _ => [.c, .z, .s, .v]
  | .incw_RR _ => [.z, .s, .v]
  | .incw_IR _ => [.z, .s, .v]
  | .clr_R _ => []
  | .clr_IR _ => []
  | .rrc_R _ => [.c, .z, .s, .v]
  | .rrc_IR _ => [.c, .z, .s, .v]
  | .sra_R _ => [.c, .z, .s, .v]
  | .sra_IR _ => [.c, .z, .s, .v]
  | .rr_R _ => [.c, .z, .s, .v]
  | .rr_IR _ => [.c, .z, .s, .v]
  | .swap_R _ => [.z, .s, .v]
  | .swap_IR _ => [.z, .s, .v]
  | .jp_IRR _ => []
  | .srp_IM _ => []
  | .call_IRR _ => []
  | .call_DA _ => []
  | .ldc_r_Irr _ _ => []
  | .ldc_Irr_r _ _ => []
  | .ldci_Ir_Irr _ _ => []
  | .ldci_Irr_Ir _ _ => []
  | .lde_r_Irr _ _ => []
  | .lde_Irr_r _ _ => []
  | .ldei_Ir_Irr _ _ => []
  | .ldei_Irr_Ir _ _ => []
  | .ld_r_Ir _ _ => []
  | .ld_Ir_r _ _ => []
  | .ld_R_R _ _ => []
  | .ld_R_IR _ _ => []
  | .ld_R_IM _ _ => []
  | .ld_IR_IM _ _ => []
  | .ld_IR_R _ _ => []
  | .ld_r_X _ _ _ => []
  | .ld_X_r _ _ _ => []
  | .ld_r_R _ _ => []
  | .ld_R_r _ _ => []
  | .djnz_r_RA _ _ => []
  | .jr_cc_RA _ _ => []
  | .ld_r_IM _ _ => []
  | .jp_cc_DA _ _ => []
  | .inc_r _ => [.z, .s, .v]
  | .wdh => [.z, .s, .v]
  | .wdt => [.z, .s, .v]
  | .stop => []
  | .halt => []
  | .di => []
  | .ei => []
  | .ret => []
  | .iret => []
  | .rcf => [.c]
  | .scf => [.c]
  | .ccf => [.c]
  | .nop => []

/-- The bytes of program memory an instruction stores to (43_load.md R210, R211). -/
def progStores (i : Instr) (s : State) : List Word :=
  match i with
  | .ldc_Irr_r dst _ => s.pairTarget dst
  | .ldci_Irr_Ir dst _ => s.pairTarget dst
  | _ => []

/-- The bytes of external data memory an instruction stores to (43_load.md R212, R213; 10_state.md R32). -/
def dataStores (i : Instr) (s : State) : List Word :=
  match i with
  | .lde_Irr_r dst _ => s.pairTarget dst
  | .ldei_Irr_Ir dst _ => s.pairTarget dst
  | .push_R _ => s.stackBytes s.pushAddrs8
  | .push_IR _ => s.stackBytes s.pushAddrs8
  | .call_DA _ => s.stackBytes s.pushAddrs16
  | .call_IRR _ => s.stackBytes s.pushAddrs16
  | _ => []

/-! ## The forms instructions share -/

/-- The six operand forms of the two-operand group (30_encoding.md R102). -/
inductive TwoForm where
  | rr (dst src : Nibble)
  | rIr (dst src : Nibble)
  | regReg (dst src : RegOp)
  | regInd (dst src : RegOp)
  | regImm (dst : RegOp) (src : Byte)
  | indImm (dst : RegOp) (src : Byte)

/-- The destination of a two-operand form (30_encoding.md R102). -/
def TwoForm.dst : TwoForm → Place
  | .rr d _ => .r d
  | .rIr d _ => .r d
  | .regReg d _ => .reg d
  | .regInd d _ => .reg d
  | .regImm d _ => .reg d
  | .indImm d _ => .indirect d

/-- The source of a two-operand form (30_encoding.md R102). -/
def TwoForm.src : TwoForm → Source
  | .rr _ v => .place (.r v)
  | .rIr _ v => .place (.ir v)
  | .regReg _ v => .place (.reg v)
  | .regInd _ v => .place (.indirect v)
  | .regImm _ v => .imm v
  | .indImm _ v => .imm v

/-- The six ADD instructions. -/
def TwoForm.add : TwoForm → Instr
  | .rr d v => .add_r_r d v
  | .rIr d v => .add_r_Ir d v
  | .regReg d v => .add_R_R d v
  | .regInd d v => .add_R_IR d v
  | .regImm d v => .add_R_IM d v
  | .indImm d v => .add_IR_IM d v

/-- The six ADC instructions. -/
def TwoForm.adc : TwoForm → Instr
  | .rr d v => .adc_r_r d v
  | .rIr d v => .adc_r_Ir d v
  | .regReg d v => .adc_R_R d v
  | .regInd d v => .adc_R_IR d v
  | .regImm d v => .adc_R_IM d v
  | .indImm d v => .adc_IR_IM d v

/-- The six SUB instructions. -/
def TwoForm.sub : TwoForm → Instr
  | .rr d v => .sub_r_r d v
  | .rIr d v => .sub_r_Ir d v
  | .regReg d v => .sub_R_R d v
  | .regInd d v => .sub_R_IR d v
  | .regImm d v => .sub_R_IM d v
  | .indImm d v => .sub_IR_IM d v

/-- The six SBC instructions. -/
def TwoForm.sbc : TwoForm → Instr
  | .rr d v => .sbc_r_r d v
  | .rIr d v => .sbc_r_Ir d v
  | .regReg d v => .sbc_R_R d v
  | .regInd d v => .sbc_R_IR d v
  | .regImm d v => .sbc_R_IM d v
  | .indImm d v => .sbc_IR_IM d v

/-- The six CP instructions. -/
def TwoForm.cp : TwoForm → Instr
  | .rr d v => .cp_r_r d v
  | .rIr d v => .cp_r_Ir d v
  | .regReg d v => .cp_R_R d v
  | .regInd d v => .cp_R_IR d v
  | .regImm d v => .cp_R_IM d v
  | .indImm d v => .cp_IR_IM d v

/-- The six AND instructions. -/
def TwoForm.and : TwoForm → Instr
  | .rr d v => .and_r_r d v
  | .rIr d v => .and_r_Ir d v
  | .regReg d v => .and_R_R d v
  | .regInd d v => .and_R_IR d v
  | .regImm d v => .and_R_IM d v
  | .indImm d v => .and_IR_IM d v

/-- The six OR instructions. -/
def TwoForm.or : TwoForm → Instr
  | .rr d v => .or_r_r d v
  | .rIr d v => .or_r_Ir d v
  | .regReg d v => .or_R_R d v
  | .regInd d v => .or_R_IR d v
  | .regImm d v => .or_R_IM d v
  | .indImm d v => .or_IR_IM d v

/-- The six XOR instructions. -/
def TwoForm.xor : TwoForm → Instr
  | .rr d v => .xor_r_r d v
  | .rIr d v => .xor_r_Ir d v
  | .regReg d v => .xor_R_R d v
  | .regInd d v => .xor_R_IR d v
  | .regImm d v => .xor_R_IM d v
  | .indImm d v => .xor_IR_IM d v

/-- The six TCM instructions. -/
def TwoForm.tcm : TwoForm → Instr
  | .rr d v => .tcm_r_r d v
  | .rIr d v => .tcm_r_Ir d v
  | .regReg d v => .tcm_R_R d v
  | .regInd d v => .tcm_R_IR d v
  | .regImm d v => .tcm_R_IM d v
  | .indImm d v => .tcm_IR_IM d v

/-- The six TM instructions. -/
def TwoForm.tm : TwoForm → Instr
  | .rr d v => .tm_r_r d v
  | .rIr d v => .tm_r_Ir d v
  | .regReg d v => .tm_R_R d v
  | .regInd d v => .tm_R_IR d v
  | .regImm d v => .tm_R_IM d v
  | .indImm d v => .tm_IR_IM d v

/-- The two operand forms of the one-operand group (30_encoding.md R103). -/
inductive OneForm where
  | reg (dst : RegOp)
  | ind (dst : RegOp)

/-- The operand of a one-operand form (30_encoding.md R103). -/
def OneForm.place : OneForm → Place
  | .reg o => .reg o
  | .ind o => .indirect o

/-- The address of the register pair a word form names (30_encoding.md R96). -/
def OneForm.pair (s : State) : OneForm → Res Byte
  | .reg o => .ok (s.regAddr o)
  | .ind o => s.readReg .dstPtr (s.regAddr o)

/-- The DEC instructions of the one-operand group. -/
def OneForm.dec : OneForm → Instr
  | .reg o => .dec_R o
  | .ind o => .dec_IR o

/-- The INC instructions of the one-operand group. -/
def OneForm.inc : OneForm → Instr
  | .reg o => .inc_R o
  | .ind o => .inc_IR o

/-- The DECW instructions of the one-operand group. -/
def OneForm.decw : OneForm → Instr
  | .reg o => .decw_RR o
  | .ind o => .decw_IR o

/-- The INCW instructions of the one-operand group. -/
def OneForm.incw : OneForm → Instr
  | .reg o => .incw_RR o
  | .ind o => .incw_IR o

/-- The DA instructions of the one-operand group. -/
def OneForm.da : OneForm → Instr
  | .reg o => .da_R o
  | .ind o => .da_IR o

/-- The COM instructions of the one-operand group. -/
def OneForm.com : OneForm → Instr
  | .reg o => .com_R o
  | .ind o => .com_IR o

/-- The RL instructions of the one-operand group. -/
def OneForm.rl : OneForm → Instr
  | .reg o => .rl_R o
  | .ind o => .rl_IR o

/-- The RLC instructions of the one-operand group. -/
def OneForm.rlc : OneForm → Instr
  | .reg o => .rlc_R o
  | .ind o => .rlc_IR o

/-- The RR instructions of the one-operand group. -/
def OneForm.rr : OneForm → Instr
  | .reg o => .rr_R o
  | .ind o => .rr_IR o

/-- The RRC instructions of the one-operand group. -/
def OneForm.rrc : OneForm → Instr
  | .reg o => .rrc_R o
  | .ind o => .rrc_IR o

/-- The SRA instructions of the one-operand group. -/
def OneForm.sra : OneForm → Instr
  | .reg o => .sra_R o
  | .ind o => .sra_IR o

/-- The SWAP instructions of the one-operand group. -/
def OneForm.swap : OneForm → Instr
  | .reg o => .swap_R o
  | .ind o => .swap_IR o

/-- The CLR instructions of the one-operand group. -/
def OneForm.clr : OneForm → Instr
  | .reg o => .clr_R o
  | .ind o => .clr_IR o

/-- The POP instructions of the one-operand group. -/
def OneForm.pop : OneForm → Instr
  | .reg o => .pop_R o
  | .ind o => .pop_IR o

/-- The PUSH instructions of the one-operand group. -/
def OneForm.push : OneForm → Instr
  | .reg o => .push_R o
  | .ind o => .push_IR o

/-- The forms of LD but for LD R,r (43_load.md R202, R203, R205 to R207). -/
inductive LoadForm where
  | rImm (dst : Nibble) (src : Byte)
  | rReg (dst : Nibble) (src : RegOp)
  | rIr (dst src : Nibble)
  | irR (dst src : Nibble)
  | regReg (dst src : RegOp)
  | regInd (dst src : RegOp)
  | regImm (dst : RegOp) (src : Byte)
  | indImm (dst : RegOp) (src : Byte)
  | indReg (dst src : RegOp)
  | rX (dst index : Nibble) (offset : Byte)
  | xR (index : Nibble) (offset : Byte) (src : Nibble)

/-- The LD instruction of a form. -/
def LoadForm.ld : LoadForm → Instr
  | .rImm d v => .ld_r_IM d v
  | .rReg d v => .ld_r_R d v
  | .rIr d v => .ld_r_Ir d v
  | .irR d v => .ld_Ir_r d v
  | .regReg d v => .ld_R_R d v
  | .regInd d v => .ld_R_IR d v
  | .regImm d v => .ld_R_IM d v
  | .indImm d v => .ld_IR_IM d v
  | .indReg d v => .ld_IR_R d v
  | .rX d x o => .ld_r_X d x o
  | .xR x o v => .ld_X_r x o v

/-- The destination of an LD form (43_load.md R202 to R207). -/
def LoadForm.dst : LoadForm → Place
  | .rImm d _ => .r d
  | .rReg d _ => .r d
  | .rIr d _ => .r d
  | .irR d _ => .ir d
  | .regReg d _ => .reg d
  | .regInd d _ => .reg d
  | .regImm d _ => .reg d
  | .indImm d _ => .indirect d
  | .indReg d _ => .indirect d
  | .rX d _ _ => .r d
  | .xR x o _ => .indexed x o

/-- The source of an LD form (43_load.md R202 to R207). -/
def LoadForm.src : LoadForm → Source
  | .rImm _ v => .imm v
  | .rReg _ v => .place (.reg v)
  | .rIr _ v => .place (.ir v)
  | .irR _ v => .place (.r v)
  | .regReg _ v => .place (.reg v)
  | .regInd _ v => .place (.indirect v)
  | .regImm _ v => .imm v
  | .indImm _ v => .imm v
  | .indReg _ v => .place (.reg v)
  | .rX _ x o => .place (.indexed x o)
  | .xR _ _ v => .place (.r v)

/-- The operands can be read: the destination's address is `a`, its old value `d`, the source's value `v`. -/
structure Readable (s : State) (dst : Place) (src : Source) (a d v : Byte) : Prop where
  addr : s.dstAddr dst = .ok a
  source : s.srcVal src = .ok v
  old : s.readReg .dst a = .ok d

/-! ## What a result must satisfy -/

/-- Every bit of FCH that is no flag is as it was (10_state.md R33). -/
def UserKept (l : FlagBits) (old new : Byte) : Prop := ∀ b, (∀ x, (l.at x).val ≠ b) → new.getLsbD b = old.getLsbD b

/-- Z and S tell whether the result is zero and negative; the bits of FCH that are no flag are those before (10_state.md R33). -/
structure ZeroSign (l : FlagBits) (old new : Byte) (zero negative : Prop) : Prop where
  zero : flag l .z new = true ↔ zero
  sign : flag l .s new = true ↔ negative
  user : UserKept l old new

/-- `r` and `new` are the sum and flags of AddCore (40_arithmetic.md R130, R142): the carry is the ninth bit of the sum, V the
signed overflow, H the carry out of the low nibble. -/
structure IsSum (l : FlagBits) (d s : Byte) (cin : Bool) (old r new : Byte) : Prop extends
    ZeroSign l old new (r = 0) (r.toInt < 0) where
  value : 256 * (flag l .c new).toNat + r.toNat = d.toNat + s.toNat + cin.toNat
  overflow : flag l .v new = true ↔ (d.toInt + s.toInt + cin.toNat < -128 ∨ 127 < d.toInt + s.toInt + cin.toNat)
  decimal : flag l .d new = false
  half : flag l .h new = true ↔ 15 < d.toNat % 16 + s.toNat % 16 + cin.toNat

/-- `r` and the C, Z, S and V of `new` are the difference and flags of SubCore (40_arithmetic.md R131, R142). -/
structure IsDifference (l : FlagBits) (d s : Byte) (bin : Bool) (old r new : Byte) : Prop extends
    ZeroSign l old new (r = 0) (r.toInt < 0) where
  value : (r.toNat : Int) - 256 * (flag l .c new).toNat = d.toNat - s.toNat - bin.toNat
  overflow : flag l .v new = true ↔ (d.toInt - s.toInt - bin.toNat < -128 ∨ 127 < d.toInt - s.toInt - bin.toNat)

/-- C, D and H are those before. -/
structure KeepsCDH (l : FlagBits) (old new : Byte) : Prop where
  carry : flag l .c new = flag l .c old
  decimal : flag l .d new = flag l .d old
  half : flag l .h new = flag l .h old

/-- D and H are those before. -/
structure KeepsDH (l : FlagBits) (old new : Byte) : Prop where
  decimal : flag l .d new = flag l .d old
  half : flag l .h new = flag l .h old

/-- Z and S are those of the byte result; C, D, H and the bits that are no flag are those before (10_state.md R33, R34). -/
structure ByteFlags (l : FlagBits) (r old new : Byte) : Prop extends
    ZeroSign l old new (r = 0) (r.toInt < 0), KeepsCDH l old new

/-- Z and S are those of the 16-bit result; C, D, H and the bits that are no flag are those before (10_state.md R33, R34). -/
structure WordFlags (l : FlagBits) (r : Word) (old new : Byte) : Prop extends
    ZeroSign l old new (r = 0) (r.toInt < 0), KeepsCDH l old new

/-- The flags of the logical group (41_logical.md R160). -/
structure LogicFlags (l : FlagBits) (r old new : Byte) : Prop extends ByteFlags l r old new where
  overflow : flag l .v new = false

/-- The flags of the four rotates: `out` is the bit that left (42_rotate_shift.md R180). -/
structure RotateFlags (l : FlagBits) (d r : Byte) (out : Bool) (old new : Byte) : Prop extends
    ZeroSign l old new (r = 0) (r.toInt < 0), KeepsDH l old new where
  carry : flag l .c new = out
  overflow : flag l .v new = true ↔ r.msb ≠ d.msb

/-- Only C changed. -/
structure OnlyCarry (l : FlagBits) (c : Bool) (old new : Byte) : Prop where
  carry : flag l .c new = c
  others : ∀ b, b ≠ l.c.val → new.getLsbD b = old.getLsbD b

/-- C, D, H and the bits that are no flag are those before; Z, S and V may be anything (45_cpu_control.md R259, R260). -/
structure LosesZSV (l : FlagBits) (old new : Byte) : Prop extends KeepsCDH l old new where
  user : UserKept l old new

/-- Two BCD digits. -/
def isBcd (b : Byte) : Bool := decide ((hiNib b).toNat ≤ 9) && decide ((loNib b).toNat ≤ 9)

/-- The number two BCD digits stand for. -/
def bcdValue (b : Byte) : Nat := 10 * (hiNib b).toNat + (loNib b).toNat

/-! ## Terms for the memories, the stack and the machine's agents -/

/-- `n` bytes can be pushed: on external data memory the part has, or on general-purpose registers it has. -/
def State.roomFor (s : State) (n : Nat) : Bool :=
  if s.chip.stackExternal then s.chip.extData
  else (List.range n).all fun i =>
    let a := s.spl - 1 - BitVec.ofNat 8 i
    decide (4 ≤ a.toNat) && decide (a.toNat < 0xF0) && !s.absent a

/-- Address `a` lies in one of the ranges. -/
abbrev Listed (rs : List AddrRange) (a : Word) : Prop := ∃ r ∈ rs, r.first.toNat ≤ a.toNat ∧ a.toNat ≤ r.last.toNat

/-- The CPU has the next turn: the schedule gives it, or is used up. -/
def State.cpuTurn (s : State) : Bool := s.inputs.head? == none || s.inputs.head? == some .cpu

/-- The instruction may load the PC. -/
def mayJump : Instr → Bool
  | .jp_IRR _ => true
  | .jp_cc_DA _ _ => true
  | .jr_cc_RA _ _ => true
  | .djnz_r_RA _ _ => true
  | .call_IRR _ => true
  | .call_DA _ => true
  | .ret => true
  | .iret => true
  | _ => false

end Sys2Proof.Machine
end

