-- ==== Sys2Proof/Certificates/Slice0/Obligations.lean ====
section
/-! DEFINITION. The statements for the provers, from the numbered rules of spec/. In each, `s` is the state an instruction
is executed in, so `s.pc` already is the address of the byte after it (spec/00_scope.md R8). -/

open Sys2Proof Sys2Proof.Machine

/-! ## Encoding -/

/-- Decoding the encoding of an encodable instruction gives it back, whatever bytes follow (30_encoding.md R91 to R105). -/
def Obligations.DecodeEncode : Prop :=
  ∀ (i : Instr) (rest : List Byte), HasEncoding i = true → decode (encode i ++ rest) = .ok (i, rest)

/-- Whatever is decoded is encodable and encodes to the bytes read: two instructions share no encoding (30_encoding.md R106). -/
def Obligations.EncodeDecode : Prop :=
  ∀ (bs : List Byte) (i : Instr) (rest : List Byte), decode bs = .ok (i, rest) →
    HasEncoding i = true ∧ encode i ++ rest = bs

/-- 30_encoding.md R107: how many bytes an instruction has, by its first byte alone. -/
def Obligations.LengthByFirstByte : Prop :=
  ∀ (b0 : Byte) (bs rest : List Byte) (i : Instr), decode (b0 :: bs) = .ok (i, rest) →
    let lo := b0.toNat % 16
    (encode i).length =
      if lo = 0xE ∨ lo = 0xF then 1
      else if lo = 0xD ∨ (4 ≤ lo ∧ lo ≤ 7 ∧ b0 ≠ 0xD4) then 3
      else 2

/-- 30_encoding.md R109: of all first bytes exactly the 21 listed stand for no instruction, and a running CPU that meets one
has no next state; 4FH and 5FH join them on a part without a Watch-Dog. -/
def Obligations.UnassignedOpcodes : Prop :=
  (∀ b0 b1 b2 : Byte, (∀ r, decode [b0, b1, b2] ≠ .ok r) ↔
    b0 ∈ ([0x0F, 0x1F, 0x2F, 0x3F, 0x84, 0x85, 0x86, 0x87, 0x94, 0x95, 0x96, 0x97, 0xC4, 0xC5, 0xC6, 0xD5, 0xE2, 0xF2,
      0xF4, 0xF6, 0xF7] : List Byte)) ∧
  (∀ s : State, s.runState = .run → s.cpuTurn = true → (∀ r, decode s.fetchBytes ≠ .ok r) →
    step s = .fault .unassignedOpcode) ∧
  (∀ s : State, s.chip.wdt = false → exec .wdh s = .fault .unassignedOpcode ∧ exec .wdt s = .fault .unassignedOpcode)

/-- Words written out from the spec's encodings decode to the instructions they stand for (30_encoding.md R91, R106). -/
def Obligations.SampleWords : Prop :=
  decodeTableWord 16 0x3B12 = some (.adc_r_r 3 11) ∧
  decodeTableWord 24 0x341214 = some (.adc_R_R (.reg 0x34) (.reg 0x12)) ∧
  decodeTableWord 24 0x34F2 = none ∧
  decodeTableWord 16 0xE660 = some (.com_R (.wr 6)) ∧
  decodeTableWord 16 0xE5F1 = some (.swap_IR (.wr 5)) ∧
  decodeTableWord 16 0x26D2 = some (.ldc_Irr_r 6 2) ∧
  decodeTableWord 24 0x2135D6 = some (.call_DA 0x3521) ∧
  decodeTableWord 16 0x095B = some (.jr_cc_RA .mi 0x09) ∧
  decodeTableWord 8 0xEF = some .ccf

/-! ## The step -/

/-- The CPU's turn in RUN: the bytes at the PC are decoded and the instruction executed, the PC it sees being the address
of the byte after it (00_scope.md R8, R12; 10_state.md R29; 20_memory.md R62). -/
def Obligations.StepRunsDecoded : Prop :=
  ∀ (s : State) (i : Instr) (rest : List Byte), s.runState = .run → s.cpuTurn = true →
    decode [s.progByte s.pc, s.progByte (s.pc + 1), s.progByte (s.pc + 2)] = .ok (i, rest) →
    step s = exec i { s with pc := s.pc + BitVec.ofNat 16 (encode i).length, inputs := s.inputs.tail }

/-- 10_state.md R29: an instruction of length L at A leaves the PC at A + L, wrapping, unless it is a control transfer. -/
def Obligations.PcAdvances : Prop :=
  ∀ (s t : State) (i : Instr) (rest : List Byte), s.runState = .run → s.cpuTurn = true →
    decode s.fetchBytes = .ok (i, rest) → mayJump i = false → step s = .next t →
    t.pc.toNat = (s.pc.toNat + (encode i).length) % 65536

/-- The MODEL's own (log 18): with a table word placed, the next step runs the instruction the decoder reads from it. -/
def Obligations.PlacedWordRuns : Prop :=
  ∀ (s : State) (nbits w : Nat) (i : Instr), memWf s.prog = true → nbits ≤ 24 → decodeTableWord nbits w = some i →
    let p := s.withFetchWord nbits w
    p.pc = s.pc ∧ step p = exec i { p with pc := s.pc + BitVec.ofNat 16 (encode i).length }

/-! ## Whole-machine rules -/

/-- The invariant holds after reset. -/
def Obligations.ResetInv : Prop := State.reset.Inv

/-- Every step, of the CPU or of the environment, from every state keeps the invariant, and none changes the part's
configuration (00_scope.md R4, R12). -/
def Obligations.StepKeepsInv : Prop := ∀ s t : State, step s = .next t → t.chip = s.chip ∧ (s.Inv → t.Inv)

/-- Only a store form of LDC or LDCI that the CPU executes changes program memory, and only in the byte its register pair
addresses (20_memory.md R60, R72, R76). -/
def Obligations.ProgramMemoryChanges : Prop :=
  ∀ (s t : State) (a : Word), memWf s.prog = true → step s = .next t → t.progByte a ≠ s.progByte a →
    s.runState = .run ∧ s.cpuTurn = true ∧
    ∃ n m : Nibble, ∃ rest, s.readWrPair m = .ok a ∧
      (decode s.fetchBytes = .ok (.ldc_Irr_r m n, rest) ∨ decode s.fetchBytes = .ok (.ldci_Irr_Ir m n, rest))

/-- 10_state.md R45: after an instruction `prev_nop` is true exactly if it was NOP; interrupt entry and reset clear it. -/
def Obligations.PreviousNop : Prop :=
  (∀ (i : Instr) (s t : State), exec i s = .next t → (t.prevNop = true ↔ i = .nop)) ∧
  (∀ (n : Nat) (s t : State), takeInterrupt n s = .next t → t.prevNop = false) ∧
  (∀ s : State, s.resetEvent.prevNop = false)

/-! ## Registers -/

/-- 10_state.md R24: the one function every register access goes through. A read of one of the oracle's registers is any byte
(20_memory.md R69). -/
def Obligations.RegisterAccess : Prop :=
  ∀ (s : State) (a v : Byte) (k : ReadSlot),
    let b := loNib s.rp
    let banked := hiNib a = 0 ∧ b ≠ 0 ∧ (b, loNib a) ∈ s.chip.bankImpl
    (∀ i : Fin 240, banked → i.val = (b.toNat - 1) * 16 + (loNib a).toNat →
      s.readReg k a = .ok s.banks[i] ∧ s.writeReg a v = .ok { s with banks := s.banks.set i v }) ∧
    (¬ banked → a ∈ s.chip.absentRegs →
      s.readReg k a = .error .unimplementedRegister ∧ s.writeReg a v = .error .unimplementedRegister) ∧
    (∀ i : Fin 236, ¬ banked → a ∉ s.chip.absentRegs → a.toNat = i.val + 4 →
      s.readReg k a = .ok s.gpr[i] ∧ s.writeReg a v = .ok { s with gpr := s.gpr.set i v }) ∧
    (s.chip.wf = true →
      (a = 0xFB → s.readReg k a = .ok s.imr ∧ s.writeReg a v = .ok { s with imr := v }) ∧
      (a = 0xFC → s.readReg k a = .ok s.flags ∧ s.writeReg a v = .ok { s with flags := v }) ∧
      (a = 0xFD → s.readReg k a = .ok s.rp ∧ s.writeReg a v = .ok { s with rp := v }) ∧
      (a = 0xFE → s.readReg k a = .ok s.sph ∧ s.writeReg a v = .ok { s with sph := v }) ∧
      (a = 0xFF → s.readReg k a = .ok s.spl ∧ s.writeReg a v = .ok { s with spl := v })) ∧
    (¬ banked → a ∉ s.chip.absentRegs → (a.toNat < 4 ∨ (0xF0 ≤ a.toNat ∧ a.toNat < 0xFB)) →
      s.readReg k a = .ok (Config.deviceByte s.time k a) ∧
      s.writeReg a v = .ok { s with deviceWrites := s.deviceWrites ++ [(a, v)] })

/-- 20_memory.md R69: a register but those of the oracle reads as the last value written to it. -/
def Obligations.WriteThenRead : Prop :=
  ∀ (s t : State) (a v : Byte) (k : ReadSlot), s.writeReg a v = .ok t → (∀ x, s.loc a ≠ .device x) →
    t.readReg k a = .ok v

/-- Under one RP no two addresses reach the same register (10_state.md R20, R22). -/
def Obligations.AddressesDistinct : Prop := ∀ (s : State) (a b : Byte), s.loc a = s.loc b → a = b

/-- 10_state.md R22, R26: SRP writes RP and nothing else, and so selects group and bank at once. Afterwards working register `n`
is the register at `16 * group + n`; addresses 00H-0FH reach the selected bank where it implements them, else bank 0; addresses
from 10H up reach what they reached. -/
def Obligations.SrpMovesWindow : Prop :=
  ∀ (s : State) (v : Byte),
    let t := { s with rp := v }.retire
    let banked (a : Byte) := v.toNat % 16 ≠ 0 ∧ (loNib v, loNib a) ∈ s.chip.bankImpl
    exec (.srp_IM v) s = .next t ∧
    (∀ (n : Nibble) (k : ReadSlot), t.readWr k n = t.readReg k (BitVec.ofNat 8 (16 * (v.toNat / 16) + n.toNat))) ∧
    (∀ a : Byte, 0x10 ≤ a.toNat → t.loc a = s.loc a) ∧
    (∀ (a : Byte) (i : Fin 240), a.toNat < 0x10 → banked a → i.val = (v.toNat % 16 - 1) * 16 + a.toNat →
      t.loc a = .bank i) ∧
    (∀ (a : Byte) (i : Fin 236), a.toNat < 0x10 → ¬ banked a → a.toNat = i.val + 4 → t.loc a = .gpr i) ∧
    (∀ a : Byte, a.toNat < 4 → ¬ banked a → t.loc a = .device a)

/-- What is written while one bank is selected, at an address that bank answers, leaves what another selection reaches as it is;
and what is written at an address no expanded bank answers leaves every register of the expanded banks as it is (10_state.md R22;
program P7 of 95_test_vectors.md). -/
def Obligations.BanksApart : Prop :=
  ∀ (s t : State) (a v rp : Byte) (b : Byte) (k : ReadSlot), s.writeReg a v = .ok t →
    (s.inBank a = true → loNib rp ≠ loNib s.rp →
      { t with rp := rp }.readReg k b = { s with rp := rp }.readReg k b) ∧
    (s.inBank a = false → { s with rp := rp }.inBank b = true →
      { t with rp := rp }.readReg k b = { s with rp := rp }.readReg k b)

/-! ## Memory -/

/-- A byte written is read back, and every other byte is as before (20_memory.md R68, R73). -/
def Obligations.MemoryReadWrite : Prop :=
  ∀ (m : Mem) (a b : Nat) (v : Byte), memWf m = true →
    memRead (memWrite m a v) b = if b = a then v else memRead m b

/-- Two canonical memories that read the same everywhere are the same data (log 8). -/
def Obligations.MemoryCanonical : Prop :=
  ∀ m n : Mem, memWf m = true → memWf n = true → (∀ a, a < 65536 → memRead m a = memRead n a) → m = n

/-! ## The stack -/

/-- CALL then RET: the high byte lies at the lower address, RET takes the PC back to `next` and SP to where it was
(10_state.md R32; 20_memory.md R61; 44_control_transfer.md R230, R235). -/
def Obligations.CallThenRet : Prop :=
  ∀ (s : State) (dst : Word), s.roomFor 2 = true → memWf s.data = true →
    ∃ t u, exec (.call_DA dst) s = .next t ∧ t.pc = dst ∧
      (∀ k, t.stackRead k t.sp = .ok (hiByte s.pc)) ∧
      (∀ k, t.stackRead k (t.stackAddr (t.sp + 1)) = .ok (loByte s.pc)) ∧
      exec .ret t = .next u ∧ u.pc = s.pc ∧ u.sp = s.sp

/-! ## Interrupts, power states, Watch-Dog, reset -/

/-- 60_exceptions.md R285, R288: what interrupt entry saves, where, and where the PC goes (PRESUMED: log 5, log 6). An internal
stack leaves SPH alone (PRESUMED: log 21). -/
def Obligations.InterruptEntry : Prop :=
  ∀ (s : State) (n : Nat) (rest : List Input), s.inputs = .env (.accept n) :: rest → s.runState ≠ .stop →
    n < s.chip.nIrq → s.pending.getLsbD n = true → s.imr.getLsbD 7 = true → s.imr.getLsbD n = true →
    (∀ m, m < s.chip.nIrq → s.pending.getLsbD m = true → s.imr.getLsbD m = true → s.chip.before m n = false) →
    s.roomFor 3 = true → memWf s.data = true →
    ∃ t, step s = .next t ∧
      t.pc = word16 (s.progByte (s.chip.vector n)) (s.progByte (s.chip.vector n + 1)) ∧
      t.sp = s.stackAddr (s.sp - 3) ∧
      (∀ k, t.stackRead k t.sp = .ok s.flags) ∧
      (∀ k, t.stackRead k (t.stackAddr (t.sp + 1)) = .ok (hiByte s.pc)) ∧
      (∀ k, t.stackRead k (t.stackAddr (t.sp + 2)) = .ok (loByte s.pc)) ∧
      t.imr.getLsbD 7 = false ∧ (∀ b, b < 7 → t.imr.getLsbD b = s.imr.getLsbD b) ∧
      t.pending.getLsbD n = false ∧ (∀ b, b ≠ n → t.pending.getLsbD b = s.pending.getLsbD b) ∧
      t.flags = s.flags ∧ t.rp = s.rp ∧ t.runState = .run ∧ t.prevNop = false ∧ t.prog = s.prog ∧ t.inputs = rest

/-- 44_control_transfer.md R232, 60_exceptions.md R285: IRET is the inverse of entry (PRESUMED: log 4, log 5). After both, the PC,
FLAGS, IMR and every register but the three stack bytes are as before entry, SPH too (PRESUMED on an internal stack: log 21);
the pending bit is gone, the CPU is in RUN and `prev_nop` is clear. -/
def Obligations.EntryThenIret : Prop :=
  ∀ (s : State) (n : Nat), s.imr.getLsbD 7 = true → s.roomFor 3 = true → memWf s.data = true →
    ∃ t u, takeInterrupt n s = .next t ∧ exec .iret t = .next u ∧ u.pc = s.pc ∧ u.flags = s.flags ∧ u.imr = s.imr ∧
      (∀ l, l ∉ s.stackLocs [s.sp - 1, s.sp - 2, s.sp - 3] → u.held l = s.held l) ∧
      (∀ a, a ∉ s.stackBytes [s.sp - 1, s.sp - 2, s.sp - 3] → memRead u.data a.toNat = memRead s.data a.toNat) ∧
      u.prog = s.prog ∧ u.runState = .run ∧ u.prevNop = false ∧ u.pending = setBit s.pending n false

/-- 60_exceptions.md R281 to R284: a device's request sets the pending bit of its source and nothing else; a request is not
accepted unless the CPU is in RUN or HALT, the request is pending and enabled, and the part's order, if it has one, puts no other
such request before it (R287; log 15). -/
def Obligations.RequestsAndMasking : Prop :=
  ∀ (s : State) (n : Nat) (rest : List Input),
    (s.inputs = .env (.request n) :: rest → s.chip.wf = true →
      ∃ p, step s = .next { s with inputs := rest, pending := p } ∧
        ∀ b, p.getLsbD b = (s.pending.getLsbD b || (b == n && decide (n < s.chip.nIrq)))) ∧
    (s.inputs = .env (.accept n) :: rest →
      ¬ (s.runState ≠ .stop ∧ n < s.chip.nIrq ∧ s.pending.getLsbD n = true ∧ s.imr.getLsbD 7 = true ∧
        s.imr.getLsbD n = true ∧
        ∀ m, m < s.chip.nIrq → s.pending.getLsbD m = true → s.imr.getLsbD m = true → s.chip.before m n = false) →
      step s = .next { s with inputs := rest })

/-- 60_exceptions.md R297: a halted CPU waits; with an enabled request pending it enters at once one such request that no other has
priority over (R287; log 15). -/
def Obligations.HaltWaitsAndWakes : Prop :=
  ∀ s : State, s.runState = .halt → s.cpuTurn = true →
    ((∀ n, ¬ (n < s.chip.nIrq ∧ s.pending.getLsbD n = true ∧ s.imr.getLsbD 7 = true ∧ s.imr.getLsbD n = true)) →
      step s = .next { s with inputs := s.inputs.tail }) ∧
    (∀ n, n < s.chip.nIrq → s.pending.getLsbD n = true → s.imr.getLsbD 7 = true → s.imr.getLsbD n = true →
      ∃ m, m < s.chip.nIrq ∧ s.pending.getLsbD m = true ∧ s.imr.getLsbD m = true ∧
        (∀ j, j < s.chip.nIrq → s.pending.getLsbD j = true → s.imr.getLsbD j = true → s.chip.before j m = false) ∧
        step s = takeInterrupt m { s with inputs := s.inputs.tail })

/-- P_IRQ_PRIORITY (60_exceptions.md R287; its form is the model's: log 15): where the part lists its sources in falling priority
and every request ready is listed, a halted CPU enters the first of them. -/
def Obligations.PriorityOrder : Prop :=
  ∀ (s : State) (higher lower : List Nat) (n : Nat), s.runState = .halt → s.cpuTurn = true →
    s.chip.irqPriority = higher ++ n :: lower →
    let ready (m : Nat) := m < s.chip.nIrq ∧ s.pending.getLsbD m = true ∧ s.imr.getLsbD 7 = true ∧ s.imr.getLsbD m = true
    ready n → (∀ m ∈ higher, ¬ ready m) → (∀ m, ready m → m = n ∨ m ∈ lower) →
    step s = takeInterrupt n { s with inputs := s.inputs.tail }

/-- 60_exceptions.md R298: STOP mode ends by reset alone; until then no register, flag or memory byte changes. -/
def Obligations.StopEndsByReset : Prop :=
  ∀ s t : State, s.runState = .stop → step s = .next t →
    (t = { s with inputs := s.inputs.tail, pending := t.pending, wdtCount := t.wdtCount }) ∨
    (t = { s with inputs := s.inputs.tail }.resetEvent ∧
      (s.inputs.head? = some (.env .reset) ∨
        (s.inputs.head? = some (.env .wdtTick) ∧ s.wdtEnabled = true ∧ s.chip.wdtInStop = true)))

/-- 70_reset_and_hazards.md R310: the effect of RESET, in any run state. Nothing is said of the state the rule leaves
unspecified. -/
def Obligations.ResetEffect : Prop :=
  ∀ (s : State) (rest : List Input), s.inputs = .env .reset :: rest →
    ∃ t, step s = .next t ∧ t.pc = 0x000C ∧ t.runState = .run ∧ t.prevNop = false ∧ t.wdtEnabled = false ∧
      t.wdtInHalt = false ∧ t.prog = s.prog ∧ t.chip = s.chip ∧ t.inputs = rest

/-- 60_exceptions.md R293, R294, R295: a tick does nothing unless the Watch-Dog is enabled and counts in the run state; at the
terminal count it resets the chip exactly as an external RESET. -/
def Obligations.WatchDogTick : Prop :=
  ∀ (s : State) (rest : List Input), s.inputs = .env .wdtTick :: rest →
    let counts := s.wdtEnabled = true ∧ (s.runState = .run ∨ (s.runState = .halt ∧ s.wdtInHalt = true) ∨
      (s.runState = .stop ∧ s.chip.wdtInStop = true))
    (¬ counts → step s = .next { s with inputs := rest }) ∧
    (counts → s.wdtCount + 1 < s.chip.wdtTimeout →
      step s = .next { s with inputs := rest, wdtCount := s.wdtCount + 1 }) ∧
    (counts → s.chip.wdtTimeout ≤ s.wdtCount + 1 → step s = step { s with inputs := .env .reset :: rest })

/-! ## What instructions compute -/

/-- ADD and ADC, all six forms: 40_arithmetic.md R130. -/
def Obligations.AddAdcResult : Prop :=
  ∀ (f : TwoForm) (s : State) (a d v : Byte), s.chip.wf = true → Readable s f.dst f.src a d v → a ≠ 0xFC →
    let l := s.chip.flagBits
    (∃ r fl, exec f.add s = .next { s.store (s.loc a) r with flags := fl }.retire ∧ IsSum l d v false s.flags r fl) ∧
    (∃ r fl, exec f.adc s = .next { s.store (s.loc a) r with flags := fl }.retire ∧
      IsSum l d v (s.flag .c) s.flags r fl)

/-- SUB and SBC, all six forms: 40_arithmetic.md R131 with writeDH. -/
def Obligations.SubSbcResult : Prop :=
  ∀ (f : TwoForm) (s : State) (a d v : Byte), s.chip.wf = true → Readable s f.dst f.src a d v → a ≠ 0xFC →
    let l := s.chip.flagBits
    (∃ r fl, exec f.sub s = .next { s.store (s.loc a) r with flags := fl }.retire ∧ IsDifference l d v false s.flags r fl ∧
      flag l .d fl = true ∧ (flag l .h fl = true ↔ d.toNat % 16 < v.toNat % 16)) ∧
    (∃ r fl, exec f.sbc s = .next { s.store (s.loc a) r with flags := fl }.retire ∧
      IsDifference l d v (s.flag .c) s.flags r fl ∧
      flag l .d fl = true ∧ (flag l .h fl = true ↔ d.toNat % 16 < v.toNat % 16 + (s.flag .c).toNat))

/-- CP, all six forms: 40_arithmetic.md R131 without writeDH, R134; no register but FLAGS changes, and FCH may be compared. -/
def Obligations.CpResult : Prop :=
  ∀ (f : TwoForm) (s : State) (a d v : Byte), s.chip.wf = true → Readable s f.dst f.src a d v →
    let l := s.chip.flagBits
    ∃ r fl, exec f.cp s = .next { s with flags := fl }.retire ∧ IsDifference l d v false s.flags r fl ∧ KeepsDH l s.flags fl

/-- On a part with the default conditions, after CP they order the operands, unsigned and signed (40_arithmetic.md R134;
30_encoding.md R108, PRESUMED rows: log 3). -/
def Obligations.CompareThenCondition : Prop :=
  ∀ (f : TwoForm) (s t : State) (a d v : Byte), s.chip.wf = true → s.chip.cond = .standard →
    Readable s f.dst f.src a d v → exec f.cp s = .next t →
    (t.cond .eq = true ↔ d = v) ∧ (t.cond .ne = true ↔ d ≠ v) ∧
    (t.cond .c = true ↔ d.toNat < v.toNat) ∧ (t.cond .nc = true ↔ v.toNat ≤ d.toNat) ∧
    (t.cond .ule = true ↔ d.toNat ≤ v.toNat) ∧ (t.cond .ugt = true ↔ v.toNat < d.toNat) ∧
    (t.cond .lt = true ↔ d.toInt < v.toInt) ∧ (t.cond .ge = true ↔ v.toInt ≤ d.toInt) ∧
    (t.cond .le = true ↔ d.toInt ≤ v.toInt) ∧ (t.cond .gt = true ↔ v.toInt < d.toInt)

/-- The condition codes by number: the three rows of the source on every part the spec admits, and on a part with the default
table all sixteen, thirteen of them PRESUMED (30_encoding.md R108; log 3). -/
def Obligations.ConditionCodes : Prop :=
  ∀ s : State,
    (s.chip.wf = true →
      s.cond (Cond.ofNibble 5) = s.flag .s ∧ s.cond (Cond.ofNibble 7) = s.flag .c ∧ s.cond (Cond.ofNibble 8) = true) ∧
    (s.chip.cond = .standard →
      s.cond (Cond.ofNibble 0) = false ∧ s.cond (Cond.ofNibble 1) = (s.flag .s != s.flag .v) ∧
      s.cond (Cond.ofNibble 2) = (s.flag .z || s.flag .s != s.flag .v) ∧
      s.cond (Cond.ofNibble 3) = (s.flag .c || s.flag .z) ∧ s.cond (Cond.ofNibble 4) = s.flag .v ∧
      s.cond (Cond.ofNibble 5) = s.flag .s ∧ s.cond (Cond.ofNibble 6) = s.flag .z ∧
      s.cond (Cond.ofNibble 7) = s.flag .c ∧
      ∀ n : Nibble, s.cond (Cond.ofNibble (n + 8)) = !s.cond (Cond.ofNibble n))

/-- Sixteen-bit addition: ADD on the low bytes, ADC on the high ones; C is the carry of the whole sum (40_arithmetic.md R142). -/
def Obligations.WideAddition : Prop :=
  ∀ (s : State) (dh dl vh vl : Byte) (xh xl yh yl : Byte), s.chip.wf = true →
    (∀ x ∈ [dh, dl, vh, vl], 4 ≤ x.toNat ∧ x.toNat < 0xF0) → dh ≠ dl → vh ≠ dl →
    s.readReg .dst dh = .ok xh → s.readReg .dst dl = .ok xl → s.readReg .dst vh = .ok yh → s.readReg .dst vl = .ok yl →
    ∃ t u rh rl, exec (.add_R_R (.reg dl) (.reg vl)) s = .next t ∧ exec (.adc_R_R (.reg dh) (.reg vh)) t = .next u ∧
      u.readReg .dst dh = .ok rh ∧ u.readReg .dst dl = .ok rl ∧
      65536 * (u.flag .c).toNat + 256 * rh.toNat + rl.toNat =
        (256 * xh.toNat + xl.toNat) + (256 * yh.toNat + yl.toNat)

/-- AND, OR and XOR in all six forms, COM in both: 41_logical.md R160 to R164. -/
def Obligations.LogicResult : Prop :=
  (∀ (f : TwoForm) (s : State) (a d v : Byte), s.chip.wf = true →
    Readable s f.dst f.src a d v → a ≠ 0xFC →
    let l := s.chip.flagBits
    (∃ fl, exec f.and s = .next { s.store (s.loc a) (d &&& v) with flags := fl }.retire ∧
      LogicFlags l (d &&& v) s.flags fl) ∧
    (∃ fl, exec f.or s = .next { s.store (s.loc a) (d ||| v) with flags := fl }.retire ∧
      LogicFlags l (d ||| v) s.flags fl) ∧
    (∃ fl, exec f.xor s = .next { s.store (s.loc a) (d ^^^ v) with flags := fl }.retire ∧
      LogicFlags l (d ^^^ v) s.flags fl)) ∧
  (∀ (f : OneForm) (s : State) (a d : Byte), s.chip.wf = true → s.dstAddr f.place = .ok a →
    s.readReg .dst a = .ok d → a ≠ 0xFC →
    let l := s.chip.flagBits
    ∃ fl, exec f.com s = .next { s.store (s.loc a) (BitVec.ofNat 8 (255 - d.toNat)) with flags := fl }.retire ∧
      LogicFlags l (BitVec.ofNat 8 (255 - d.toNat)) s.flags fl)

/-- TCM and TM, all six forms: Z tells whether the tested bits are all 1, all 0; S looks at bit 7 of the mask alone
(41_logical.md R160, R165, R166). -/
def Obligations.TcmTmResult : Prop :=
  ∀ (f : TwoForm) (s : State) (a d v : Byte), s.chip.wf = true → Readable s f.dst f.src a d v →
    let l := s.chip.flagBits
    (∃ fl, exec f.tcm s = .next { s with flags := fl }.retire ∧ KeepsCDH l s.flags fl ∧ flag l .v fl = false ∧
      UserKept l s.flags fl ∧
      (flag l .z fl = true ↔ ∀ b, b < 8 → v.getLsbD b = true → d.getLsbD b = true) ∧
      (flag l .s fl = true ↔ v.msb = true ∧ d.msb = false)) ∧
    (∃ fl, exec f.tm s = .next { s with flags := fl }.retire ∧ KeepsCDH l s.flags fl ∧ flag l .v fl = false ∧
      UserKept l s.flags fl ∧
      (flag l .z fl = true ↔ ∀ b, b < 8 → v.getLsbD b = true → d.getLsbD b = false) ∧
      (flag l .s fl = true ↔ v.msb = true ∧ d.msb = true))

/-- INC (three forms) and DEC: 40_arithmetic.md R136, R138; C, D and H never change (R142). -/
def Obligations.IncDecResult : Prop :=
  ∀ (s : State) (a d : Byte), s.chip.wf = true → s.readReg .dst a = .ok d → a ≠ 0xFC →
    let l := s.chip.flagBits
    (∀ f : OneForm, s.dstAddr f.place = .ok a →
      (∃ fl, exec f.inc s = .next { s.store (s.loc a) (d + 1) with flags := fl }.retire ∧
        ByteFlags l (d + 1) s.flags fl ∧ (flag l .v fl = true ↔ 127 < d.toInt + 1)) ∧
      (∃ fl, exec f.dec s = .next { s.store (s.loc a) (d - 1) with flags := fl }.retire ∧
        ByteFlags l (d - 1) s.flags fl ∧ (flag l .v fl = true ↔ d.toInt - 1 < -128))) ∧
    (∀ n : Nibble, s.wrAddr n = a →
      ∃ fl, exec (.inc_r n) s = .next { s.store (s.loc a) (d + 1) with flags := fl }.retire ∧
        ByteFlags l (d + 1) s.flags fl ∧ (flag l .v fl = true ↔ 127 < d.toInt + 1))

/-- INCW and DECW: the flags are those of the 16-bit word, its high byte lies at the even address (40_arithmetic.md R137, R139;
10_state.md R27). -/
def Obligations.IncwDecwResult : Prop :=
  ∀ (f : OneForm) (s : State) (p h lo : Byte), s.chip.wf = true → f.pair s = .ok p → p.toNat % 2 = 0 → p ≠ 0xFC →
    s.readReg .pairHi p = .ok h → s.readReg .pairLo (p + 1) = .ok lo →
    let l := s.chip.flagBits
    let w : Word := BitVec.ofNat 16 (256 * h.toNat + lo.toNat)
    (∃ fl, exec f.incw s = .next { (s.store (s.loc p) (hiByte (w + 1))).store (s.loc (p + 1)) (loByte (w + 1)) with
        flags := fl }.retire ∧ WordFlags l (w + 1) s.flags fl ∧ (flag l .v fl = true ↔ 32767 < w.toInt + 1)) ∧
    (∃ fl, exec f.decw s = .next { (s.store (s.loc p) (hiByte (w - 1))).store (s.loc (p + 1)) (loByte (w - 1)) with
        flags := fl }.retire ∧ WordFlags l (w - 1) s.flags fl ∧ (flag l .v fl = true ↔ w.toInt - 1 < -32768))

/-- DA by its table, V free; outside the table the model has no next state (40_arithmetic.md R135). -/
def Obligations.DaResult : Prop :=
  ∀ (f : OneForm) (s : State) (a d : Byte), s.dstAddr f.place = .ok a → s.readReg .dst a = .ok d →
    let l := s.chip.flagBits
    (∀ row ∈ daTable, row.covers d (s.flag .c) (s.flag .h) (s.flag .d) = true → s.chip.wf = true → a ≠ 0xFC →
      ∃ fl, exec f.da s = .next { s.store (s.loc a) (d + row.added) with flags := fl }.retire ∧
        ZeroSign l s.flags fl (d + row.added = 0) ((d + row.added).toInt < 0) ∧ KeepsDH l s.flags fl ∧
        flag l .c fl = row.cAfter) ∧
    ((∀ row ∈ daTable, row.covers d (s.flag .c) (s.flag .h) (s.flag .d) = false) →
      exec f.da s = .fault .daUndefined)

/-- Decimal arithmetic: after ADC or SBC of two BCD bytes, DA makes the destination the BCD sum or difference and C its decimal
carry or borrow (40_arithmetic.md R135). -/
def Obligations.DecimalArithmetic : Prop :=
  ∀ (s t : State) (a d v : Byte) (src : RegOp), s.chip.wf = true → 4 ≤ a.toNat → a.toNat < 0xF0 →
    Readable s (.reg (.reg a)) (.place (.reg src)) a d v → isBcd d = true → isBcd v = true →
    (exec (.adc_R_R (.reg a) src) s = .next t →
      ∃ u r, exec (.da_R (.reg a)) t = .next u ∧ u.readReg .dst a = .ok r ∧ isBcd r = true ∧
        100 * (u.flag .c).toNat + bcdValue r = bcdValue d + bcdValue v + (s.flag .c).toNat) ∧
    (exec (.sbc_R_R (.reg a) src) s = .next t →
      ∃ u r, exec (.da_R (.reg a)) t = .next u ∧ u.readReg .dst a = .ok r ∧ isBcd r = true ∧
        bcdValue r + bcdValue v + (s.flag .c).toNat = bcdValue d + 100 * (u.flag .c).toNat)

/-- RL, RLC, RR and RRC: 42_rotate_shift.md R180 to R184; through the carry they are 9-bit rotations. -/
def Obligations.RotateResult : Prop :=
  ∀ (f : OneForm) (s : State) (a d : Byte), s.chip.wf = true → s.dstAddr f.place = .ok a →
    s.readReg .dst a = .ok d → a ≠ 0xFC →
    let l := s.chip.flagBits
    (∃ r fl, exec f.rl s = .next { s.store (s.loc a) r with flags := fl }.retire ∧ r = d.rotateLeft 1 ∧
      RotateFlags l d r (d.getLsbD 7) s.flags fl) ∧
    (∃ r fl, exec f.rr s = .next { s.store (s.loc a) r with flags := fl }.retire ∧ r = d.rotateRight 1 ∧
      RotateFlags l d r (d.getLsbD 0) s.flags fl) ∧
    (∃ r fl, exec f.rlc s = .next { s.store (s.loc a) r with flags := fl }.retire ∧
      BitVec.ofBool (flag l .c fl) ++ r = (BitVec.ofBool (s.flag .c) ++ d).rotateLeft 1 ∧
      RotateFlags l d r (d.getLsbD 7) s.flags fl) ∧
    (∃ r fl, exec f.rrc s = .next { s.store (s.loc a) r with flags := fl }.retire ∧
      BitVec.ofBool (flag l .c fl) ++ r = (BitVec.ofBool (s.flag .c) ++ d).rotateRight 1 ∧
      RotateFlags l d r (d.getLsbD 0) s.flags fl)

/-- SRA halves the signed byte, C being the remainder; SWAP exchanges the nibbles, V free (42_rotate_shift.md R185, R186). -/
def Obligations.SraSwapResult : Prop :=
  ∀ (f : OneForm) (s : State) (a d : Byte), s.chip.wf = true → s.dstAddr f.place = .ok a →
    s.readReg .dst a = .ok d → a ≠ 0xFC →
    let l := s.chip.flagBits
    (∃ r fl, exec f.sra s = .next { s.store (s.loc a) r with flags := fl }.retire ∧
      2 * r.toInt + (flag l .c fl).toNat = d.toInt ∧ ZeroSign l s.flags fl (r = 0) (r.toInt < 0) ∧ KeepsDH l s.flags fl ∧
      flag l .v fl = false) ∧
    (∃ r fl, exec f.swap s = .next { s.store (s.loc a) r with flags := fl }.retire ∧
      r.toNat = 16 * (d.toNat % 16) + d.toNat / 16 ∧ ByteFlags l r s.flags fl)

/-- CLR and LD, every form: one byte moves and no flag is touched; r9 admits only a full register address (43_load.md R200 to
R207; 30_encoding.md R110). -/
def Obligations.ClrLdResult : Prop :=
  (∀ (f : OneForm) (s : State) (a : Byte), s.dstAddr f.place = .ok a → s.absent a = false →
    exec f.clr s = .next (s.store (s.loc a) 0x00).retire) ∧
  (∀ (f : LoadForm) (s : State) (a v : Byte), s.dstAddr f.dst = .ok a → s.srcVal f.src = .ok v → s.absent a = false →
    exec f.ld s = .next (s.store (s.loc a) v).retire) ∧
  (∀ (dst : Byte) (n : Nibble) (s : State) (v : Byte), dst.toNat / 16 ≠ 0xE → s.readWr .src n = .ok v →
    s.absent dst = false → exec (.ld_R_r dst n) s = .next (s.store (s.loc dst) v).retire) ∧
  (∀ (dst : Byte) (n : Nibble) (s : State), dst.toNat / 16 = 0xE → exec (.ld_R_r dst n) s = .fault .escapeInR9)

/-- LDC and LDE, all four forms: 43_load.md R210, R212; program memory and data memory are different spaces (10_state.md R40); a
store into the three bytes that follow, or one the part cannot perform, has no next state (20_memory.md R76, R78). -/
def Obligations.LdcLdeResult : Prop :=
  ∀ (s : State) (n m : Nibble) (a : Word), s.readWrPair m = .ok a →
    let ahead := a = s.pc ∨ a = s.pc + 1 ∨ a = s.pc + 2
    let reached := ¬ Listed s.chip.progUnreached a
    let writable := s.chip.extProg = true ∧ ¬ Listed s.chip.progReadOnly a ∧ reached
    (s.absent (s.wrAddr n) = false →
      (reached →
        exec (.ldc_r_Irr n m) s = .next (s.store (s.loc (s.wrAddr n)) (memRead s.prog a.toNat)).retire) ∧
      (s.chip.extData = true →
        exec (.lde_r_Irr n m) s = .next (s.store (s.loc (s.wrAddr n)) (memRead s.data a.toNat)).retire)) ∧
    (∀ v, s.readWr .src n = .ok v →
      (writable → ¬ ahead →
        exec (.ldc_Irr_r m n) s = .next { s with prog := memWrite s.prog a.toNat v }.retire) ∧
      (writable → ahead → exec (.ldc_Irr_r m n) s = .fault .storeIntoPipeline) ∧
      (¬ writable → exec (.ldc_Irr_r m n) s = .fault .notOnThisPart) ∧
      (s.chip.extData = true →
        exec (.lde_Irr_r m n) s = .next { s with data := memWrite s.data a.toNat v }.retire) ∧
      (s.chip.extData = false → exec (.lde_Irr_r m n) s = .fault .notOnThisPart)) ∧
    (¬ reached → exec (.ldc_r_Irr n m) s = .fault .notOnThisPart) ∧
    (s.chip.extData = false → exec (.lde_r_Irr n m) s = .fault .notOnThisPart)

/-- LDCI and LDEI, all four forms: the byte moves, then both pointers go up by one, wrapping (43_load.md R211, R213; 20_memory.md
R71); a store into the three bytes that follow, or an access the part cannot perform, has no next state (20_memory.md R76, R78).
That the forms on RP (0xFD) are left to ClashFaults is the model's reading of 10_state.md R38 (log 16). -/
def Obligations.LdciLdeiResult : Prop :=
  ∀ (s : State) (n m : Nibble) (a : Word), s.readWrPair m = .ok a → n ≠ m → n ≠ m + 1 → s.wrAddr n ≠ 0xFD →
    let moved (u : State) (ra : Byte) : State :=
      ((u.store (s.loc (s.wrAddr n)) (ra + 1)).store (s.loc (s.wrAddr m)) (hiByte (a + 1))).store
        (s.loc (s.wrAddr (m + 1))) (loByte (a + 1))
    let ahead := a = s.pc ∨ a = s.pc + 1 ∨ a = s.pc + 2
    let reached := ¬ Listed s.chip.progUnreached a
    let writable := s.chip.extProg = true ∧ ¬ Listed s.chip.progReadOnly a ∧ reached
    (∀ ra, s.readWr .dstPtr n = .ok ra → ra ∉ [s.wrAddr n, s.wrAddr m, s.wrAddr (m + 1), 0xFD] →
      (s.absent ra = false → reached → exec (.ldci_Ir_Irr n m) s =
        .next (moved (s.store (s.loc ra) (memRead s.prog a.toNat)) ra).retire) ∧
      (¬ reached → exec (.ldci_Ir_Irr n m) s = .fault .notOnThisPart) ∧
      (s.absent ra = false → s.chip.extData = true → exec (.ldei_Ir_Irr n m) s =
        .next (moved (s.store (s.loc ra) (memRead s.data a.toNat)) ra).retire) ∧
      (s.chip.extData = false → exec (.ldei_Ir_Irr n m) s = .fault .notOnThisPart)) ∧
    (∀ ra v, s.readWr .srcPtr n = .ok ra → s.readReg .src ra = .ok v →
      (writable → ¬ ahead →
        exec (.ldci_Irr_Ir m n) s = .next (moved { s with prog := memWrite s.prog a.toNat v } ra).retire) ∧
      (writable → ahead → exec (.ldci_Irr_Ir m n) s = .fault .storeIntoPipeline) ∧
      (¬ writable → exec (.ldci_Irr_Ir m n) s = .fault .notOnThisPart) ∧
      (s.chip.extData = true → exec (.ldei_Irr_Ir m n) s =
        .next (moved { s with data := memWrite s.data a.toNat v } ra).retire) ∧
      (s.chip.extData = false → exec (.ldei_Irr_Ir m n) s = .fault .notOnThisPart))

/-- PUSH: SP moves down by one and the byte lies where it then points, in registers or in external data memory
(43_load.md R215; 10_state.md R31, R32). On an internal stack SPH is left alone (PRESUMED: log 21). -/
def Obligations.PushResult : Prop :=
  ∀ (f : OneForm) (s : State) (a v : Byte), s.placeAddr .srcPtr f.place = .ok a → a ≠ 0xFE → a ≠ 0xFF →
    s.readReg .src a = .ok v →
    (s.chip.stackExternal = false → s.absent (s.spl - 1) = false →
      exec f.push s = .next ({ s with spl := s.spl - 1 }.store (s.loc (s.spl - 1)) v).retire) ∧
    (s.chip.stackExternal = true → s.chip.extData = true →
      let p := word16 s.sph s.spl - 1
      exec f.push s = .next { s with sph := hiByte p, spl := loByte p, data := memWrite s.data p.toNat v }.retire) ∧
    (s.chip.stackExternal = true → s.chip.extData = false → exec f.push s = .fault .notOnThisPart)

/-- POP: the byte SP points at goes to the destination, whose address was formed before SP moved up by one (43_load.md R214).
On an internal stack SPH is left alone (PRESUMED: log 21). -/
def Obligations.PopResult : Prop :=
  ∀ (f : OneForm) (s : State) (a v : Byte), s.dstAddr f.place = .ok a → a ≠ 0xFE → a ≠ 0xFF → s.absent a = false →
    (s.chip.stackExternal = false → s.readReg .stack0 s.spl = .ok v →
      exec f.pop s = .next ({ s with spl := s.spl + 1 }.store (s.loc a) v).retire) ∧
    (s.chip.stackExternal = true → s.chip.extData = true →
      let p := word16 s.sph s.spl
      exec f.pop s = .next ({ s with sph := hiByte (p + 1), spl := loByte (p + 1) }.store (s.loc a)
        (memRead s.data p.toNat)).retire) ∧
    (s.chip.stackExternal = true → s.chip.extData = false → exec f.pop s = .fault .notOnThisPart)

/-- CALL, both forms: `next` is pushed, its high byte at the lower address, and the PC loaded; the pair of the IRR form is read
before the push (44_control_transfer.md R230; 10_state.md R32); an external stack needs external data memory (R78).
On an internal stack SPH is left alone (PRESUMED: log 21). -/
def Obligations.CallResult : Prop :=
  ∀ (s : State) (i : Instr) (dst : Word),
    (i = .call_DA dst ∨ ∃ o, i = .call_IRR o ∧ (s.regAddr o).toNat % 2 = 0 ∧ s.regAddr o ≠ 0xFE ∧
      s.readPair (s.regAddr o) = .ok dst) →
    (s.chip.stackExternal = false → s.absent (s.spl - 2) = false → s.absent (s.spl - 1) = false →
      exec i s = .next { ({ s with spl := s.spl - 2 }.store (s.loc (s.spl - 2)) (hiByte s.pc)).store (s.loc (s.spl - 1))
        (loByte s.pc) with pc := dst }.retire) ∧
    (s.chip.stackExternal = true → s.chip.extData = true →
      let p := word16 s.sph s.spl - 2
      exec i s = .next { s with
        sph := hiByte p, spl := loByte p, pc := dst
        data := memWrite (memWrite s.data p.toNat (hiByte s.pc)) (p + 1).toNat (loByte s.pc) }.retire) ∧
    (s.chip.stackExternal = true → s.chip.extData = false → exec i s = .fault .notOnThisPart)

/-- RET takes the PC from the stack, high byte first; IRET takes FLAGS and then the PC and sets IMR bit 7
(44_control_transfer.md R232, R235; IRET PRESUMED: log 4); an external stack needs external data memory (20_memory.md R78). On an
internal stack SPH is left alone (PRESUMED: log 21). -/
def Obligations.ReturnResult : Prop :=
  ∀ (s : State) (f h l : Byte),
    (s.chip.stackExternal = false → s.readReg .stack0 s.spl = .ok h → s.readReg .stack1 (s.spl + 1) = .ok l →
      exec .ret s = .next { s with spl := s.spl + 2, pc := word16 h l }.retire) ∧
    (s.chip.stackExternal = true → s.chip.extData = true →
      let p := word16 s.sph s.spl
      exec .ret s = .next { s with
        sph := hiByte (p + 2), spl := loByte (p + 2)
        pc := word16 (memRead s.data p.toNat) (memRead s.data (p + 1).toNat) }.retire) ∧
    (s.chip.stackExternal = false → s.readReg .stack0 s.spl = .ok f →
      { s with flags := f, spl := s.spl + 1 }.readReg .stack1 (s.spl + 1) = .ok h →
      { s with flags := f, spl := s.spl + 1 }.readReg .stack2 (s.spl + 2) = .ok l →
      exec .iret s = .next { s with flags := f, spl := s.spl + 3, pc := word16 h l, imr := s.imr ||| 0x80 }.retire) ∧
    (s.chip.stackExternal = true → s.chip.extData = true →
      let p := word16 s.sph s.spl
      exec .iret s = .next { s with
        flags := memRead s.data p.toNat
        sph := hiByte (p + 3), spl := loByte (p + 3), imr := s.imr ||| 0x80
        pc := word16 (memRead s.data (p + 1).toNat) (memRead s.data (p + 2).toNat) }.retire) ∧
    (s.chip.stackExternal = true → s.chip.extData = false →
      exec .ret s = .fault .notOnThisPart ∧ exec .iret s = .fault .notOnThisPart)

/-- JP and JR: the PC is loaded if the condition holds, and left at `next` if not; no flag changes (44_control_transfer.md R233,
R234; 30_encoding.md R100). The jump of JR wraps at the ends of program memory (DESIGN CHOICE: log 22; 10_state.md R29). -/
def Obligations.JumpResult : Prop :=
  ∀ s : State,
    (∀ (o : RegOp) (w : Word), (s.regAddr o).toNat % 2 = 0 → s.readPair (s.regAddr o) = .ok w →
      exec (.jp_IRR o) s = .next { s with pc := w }.retire) ∧
    (∀ (cc : Cond) (dst : Word),
      exec (.jp_cc_DA cc dst) s = .next { s with pc := if s.cond cc then dst else s.pc }.retire) ∧
    (∀ (cc : Cond) (dst : Byte),
      exec (.jr_cc_RA cc dst) s = .next { s with
        pc := if s.cond cc then BitVec.ofInt 16 (s.pc.toNat + dst.toInt) else s.pc }.retire)

/-- DJNZ: the counter goes down by one, the jump is taken unless it reached zero, no flag changes; a port or control register
cannot be the counter (44_control_transfer.md R231; 70_reset_and_hazards.md R322). The jump wraps at the ends of program memory
(DESIGN CHOICE: log 22; 10_state.md R29). -/
def Obligations.DjnzResult : Prop :=
  ∀ (s : State) (n : Nibble) (dst : Byte),
    (∀ x, 4 ≤ (s.wrAddr n).toNat → (s.wrAddr n).toNat < 0xF0 → s.readWr .dst n = .ok x →
      exec (.djnz_r_RA n dst) s = .next { s.store (s.loc (s.wrAddr n)) (x - 1) with
        pc := if x = 1 then s.pc else BitVec.ofInt 16 (s.pc.toNat + dst.toInt) }.retire) ∧
    ((s.wrAddr n).toNat < 4 ∨ 0xF0 ≤ (s.wrAddr n).toNat →
      exec (.djnz_r_RA n dst) s = .fault .djnzOnNonGeneralRegister)

/-- CCF, RCF and SCF change C alone, DI and EI bit 7 of IMR alone; NOP; SRP (45_cpu_control.md R250 to R252, R254 to R257). -/
def Obligations.ControlResult : Prop :=
  ∀ (s : State) (v : Byte),
    (∃ fl, exec .ccf s = .next { s with flags := fl }.retire ∧ OnlyCarry s.chip.flagBits (!s.flag .c) s.flags fl) ∧
    (∃ fl, exec .rcf s = .next { s with flags := fl }.retire ∧ OnlyCarry s.chip.flagBits false s.flags fl) ∧
    (∃ fl, exec .scf s = .next { s with flags := fl }.retire ∧ OnlyCarry s.chip.flagBits true s.flags fl) ∧
    (∃ m, exec .di s = .next { s with imr := m }.retire ∧ m.msb = false ∧ m.extractLsb' 0 7 = s.imr.extractLsb' 0 7) ∧
    (∃ m, exec .ei s = .next { s with imr := m }.retire ∧ m.msb = true ∧ m.extractLsb' 0 7 = s.imr.extractLsb' 0 7) ∧
    exec .nop s = .next { s with prevNop := true, time := s.time + 1 } ∧
    exec (.srp_IM v) s = .next { s with rp := v }.retire

/-- HALT and STOP: only immediately after NOP (45_cpu_control.md R253, R258; 70_reset_and_hazards.md R320). -/
def Obligations.HaltStopResult : Prop :=
  ∀ s : State,
    (s.prevNop = true → exec .halt s = .next { s with runState := .halt }.retire ∧
      exec .stop s = .next { s with runState := .stop }.retire) ∧
    (s.prevNop = false → exec .halt s = .fault .haltWithoutNop ∧ exec .stop s = .fault .stopWithoutNop)

/-- WDT and WDH: the Watch-Dog is enabled and restarted, or made to count in HALT once it is enabled; Z, S and V may hold
anything afterwards (45_cpu_control.md R259, R260; 70_reset_and_hazards.md R321).
That a restarted count is 0 is the model's (DESIGN CHOICE: log 13). -/
def Obligations.WatchDogInstructions : Prop :=
  ∀ s : State, s.chip.wdt = true → s.chip.wf = true →
    let l := s.chip.flagBits
    (∃ fl, exec .wdt s = .next { s with wdtEnabled := true, wdtCount := 0, flags := fl }.retire ∧ LosesZSV l s.flags fl) ∧
    (∃ fl, exec .wdh s = .next { s with wdtInHalt := if s.wdtEnabled then true else s.wdtInHalt, flags := fl }.retire ∧
      LosesZSV l s.flags fl)

/-! ## Operands without a meaning -/

/-- 30_encoding.md R111: an odd register-pair operand has no meaning, in any of the fourteen instructions that have one.
The source states evenness for DECW and INCW; for JP, CALL, LDC, LDCI, LDE and LDEI it is the spec's extension (DEDUCED: log 25). -/
def Obligations.OddPairFaults : Prop :=
  ∀ s : State,
    (∀ (f : OneForm) (p : Byte), f.pair s = .ok p → p.toNat % 2 = 1 →
      exec f.incw s = .fault .oddRegisterPair ∧ exec f.decw s = .fault .oddRegisterPair) ∧
    (∀ o : RegOp, (s.regAddr o).toNat % 2 = 1 →
      exec (.jp_IRR o) s = .fault .oddRegisterPair ∧ exec (.call_IRR o) s = .fault .oddRegisterPair) ∧
    (∀ n m : Nibble, m.toNat % 2 = 1 →
      exec (.ldc_r_Irr n m) s = .fault .oddRegisterPair ∧ exec (.ldc_Irr_r m n) s = .fault .oddRegisterPair ∧
      exec (.lde_r_Irr n m) s = .fault .oddRegisterPair ∧ exec (.lde_Irr_r m n) s = .fault .oddRegisterPair ∧
      exec (.ldci_Ir_Irr n m) s = .fault .oddRegisterPair ∧ exec (.ldci_Irr_Ir m n) s = .fault .oddRegisterPair ∧
      exec (.ldei_Ir_Irr n m) s = .fault .oddRegisterPair ∧ exec (.ldei_Irr_Ir m n) s = .fault .oddRegisterPair)

/-- 10_state.md R38: a flag-writing instruction may not have FLAGS as its destination; PUSH, POP and CALL may not name a half of
SP; LDCI and LDEI may not name one of their own pointers (43_load.md R211, R213), nor, by the model's reading of R38, keep their
byte pointer in RP or load RP (0xFD; DEDUCED: log 16). -/
def Obligations.ClashFaults : Prop :=
  (∀ (f : TwoForm) (s : State) (d v : Byte), Readable s f.dst f.src 0xFC d v →
    ∀ i ∈ [f.add, f.adc, f.sub, f.sbc, f.and, f.or, f.xor], exec i s = .fault .implicitExplicitClash) ∧
  (∀ (f : OneForm) (s : State) (d : Byte), s.dstAddr f.place = .ok 0xFC → s.readReg .dst 0xFC = .ok d →
    ∀ i ∈ [f.inc, f.dec, f.com, f.rl, f.rlc, f.rr, f.rrc, f.sra, f.swap], exec i s = .fault .implicitExplicitClash) ∧
  (∀ (f : OneForm) (s : State), f.pair s = .ok 0xFC →
    exec f.incw s = .fault .implicitExplicitClash ∧ exec f.decw s = .fault .implicitExplicitClash) ∧
  (∀ (f : OneForm) (s : State) (d : Byte), s.dstAddr f.place = .ok 0xFC → s.readReg .dst 0xFC = .ok d →
    ∀ row ∈ daTable, row.covers d (s.flag .c) (s.flag .h) (s.flag .d) = true →
      exec f.da s = .fault .implicitExplicitClash) ∧
  (∀ (n : Nibble) (s : State) (d : Byte), s.wrAddr n = 0xFC → s.readReg .dst 0xFC = .ok d →
    exec (.inc_r n) s = .fault .implicitExplicitClash) ∧
  (∀ (f : OneForm) (s : State) (a : Byte), s.dstAddr f.place = .ok a → a = 0xFE ∨ a = 0xFF →
    exec f.pop s = .fault .implicitExplicitClash) ∧
  (∀ (f : OneForm) (s : State) (a : Byte), s.placeAddr .srcPtr f.place = .ok a → a = 0xFE ∨ a = 0xFF →
    exec f.push s = .fault .implicitExplicitClash) ∧
  (∀ (o : RegOp) (s : State), s.regAddr o = 0xFE → exec (.call_IRR o) s = .fault .implicitExplicitClash) ∧
  (∀ (s : State) (n m : Nibble), m.toNat % 2 = 0 → n = m ∨ n = m + 1 ∨ s.wrAddr n = 0xFD →
    exec (.ldci_Ir_Irr n m) s = .fault .implicitExplicitClash ∧
    exec (.ldci_Irr_Ir m n) s = .fault .implicitExplicitClash ∧
    exec (.ldei_Ir_Irr n m) s = .fault .implicitExplicitClash ∧
    exec (.ldei_Irr_Ir m n) s = .fault .implicitExplicitClash) ∧
  (∀ (s : State) (n m : Nibble) (a : Word) (ra : Byte), s.readWrPair m = .ok a → s.readWr .dstPtr n = .ok ra →
    ra ∈ [s.wrAddr n, s.wrAddr m, s.wrAddr (m + 1), 0xFD] →
    exec (.ldci_Ir_Irr n m) s = .fault .implicitExplicitClash ∧
    exec (.ldei_Ir_Irr n m) s = .fault .implicitExplicitClash)

/-! ## Frames -/

/-- The register frame of every instruction: only FLAGS and the registers of `destLocs` (the destination, SP, the pointers, IMR,
RP where the rule of the instruction writes them) change. On an internal stack SPH is none of them (PRESUMED: 10_state.md R31,
log 21). -/
def Obligations.RegisterFrame : Prop :=
  ∀ (i : Instr) (s t : State), exec i s = .next t → ∀ l, l ≠ .flags → l ∉ destLocs i s → t.held l = s.held l

/-- 10_state.md R34: the flag frame of every instruction. Unless FLAGS itself is a destination, only the flags the table gives the
instruction change. -/
def Obligations.FlagFrame : Prop :=
  ∀ (i : Instr) (s t : State), exec i s = .next t → .flags ∉ destLocs i s →
    ∀ b, (∀ x ∈ flagsOf i, (s.chip.flagBits.at x).val ≠ b) → t.flags.getLsbD b = s.flags.getLsbD b

/-- The memory frame of every instruction: every byte of both memories but those it stores to reads as before. -/
def Obligations.MemoryFrame : Prop :=
  ∀ (i : Instr) (s t : State), memWf s.prog = true → memWf s.data = true → exec i s = .next t → ∀ a : Word,
    (a ∉ progStores i s → memRead t.prog a.toNat = memRead s.prog a.toNat) ∧
    (a ∉ dataStores i s → memRead t.data a.toNat = memRead s.data a.toNat)

/-- The frame of the rest of the state: the run state but for HALT and STOP, the Watch-Dog but for WDT and WDH, and for every
instruction the part, the pending requests and the schedule. -/
def Obligations.MachineFrame : Prop :=
  ∀ (i : Instr) (s t : State), exec i s = .next t →
    t.chip = s.chip ∧ t.pending = s.pending ∧ t.inputs = s.inputs ∧
    (i ≠ .halt → i ≠ .stop → t.runState = s.runState) ∧
    (i ≠ .wdt → t.wdtEnabled = s.wdtEnabled ∧ t.wdtCount = s.wdtCount) ∧
    (i ≠ .wdh → t.wdtInHalt = s.wdtInHalt) ∧
    (∃ ws, t.deviceWrites = s.deviceWrites ++ ws ∧ ∀ w ∈ ws, .device w.1 ∈ destLocs i s)
end

