-- ==== Sys2Proof/Laws/Bits.lean ====
section
/-! SUPPORT. The small lemmas of the bit-field helpers and of the flag register's layout. -/

namespace Sys2Proof

theorem hiNib_toNat (b : Byte) : (hiNib b).toNat = b.toNat / 16 := by
  simp [hiNib, Nat.shiftRight_eq_div_pow]; omega

theorem loNib_toNat (b : Byte) : (loNib b).toNat = b.toNat % 16 := by
  simp [loNib]

theorem nibbles_toNat (h l : Nibble) : (nibbles h l).toNat = 16 * h.toNat + l.toNat := by
  change (h ++ l : BitVec (4 + 4)).toNat = _
  rw [BitVec.toNat_append, Nat.shiftLeft_eq, Nat.mul_comm, ← Nat.two_pow_add_eq_or_of_lt l.isLt]

theorem word16_toNat (h l : Byte) : (word16 h l).toNat = 256 * h.toNat + l.toNat := by
  change (h ++ l : BitVec (8 + 8)).toNat = _
  rw [BitVec.toNat_append, Nat.shiftLeft_eq, Nat.mul_comm, ← Nat.two_pow_add_eq_or_of_lt l.isLt]

theorem loByte_toNat (w : Word) : (loByte w).toNat = w.toNat % 256 := by simp [loByte]

theorem hiByte_toNat (w : Word) : (hiByte w).toNat = w.toNat / 256 := by
  simp [hiByte, Nat.shiftRight_eq_div_pow]; omega

theorem zext16_toNat (b : Byte) : (zext16 b).toNat = b.toNat := by
  simp [zext16]; omega

@[simp] theorem hiNib_nibbles (h l : Nibble) : hiNib (nibbles h l) = h := by
  apply BitVec.eq_of_toNat_eq; rw [hiNib_toNat, nibbles_toNat]; omega

@[simp] theorem loNib_nibbles (h l : Nibble) : loNib (nibbles h l) = l := by
  apply BitVec.eq_of_toNat_eq; rw [loNib_toNat, nibbles_toNat]; omega

@[simp] theorem nibbles_hiNib_loNib (b : Byte) : nibbles (hiNib b) (loNib b) = b := by
  apply BitVec.eq_of_toNat_eq; rw [nibbles_toNat, hiNib_toNat, loNib_toNat]; omega

@[simp] theorem hiByte_word16 (h l : Byte) : hiByte (word16 h l) = h := by
  apply BitVec.eq_of_toNat_eq; rw [hiByte_toNat, word16_toNat]; omega

@[simp] theorem loByte_word16 (h l : Byte) : loByte (word16 h l) = l := by
  apply BitVec.eq_of_toNat_eq; rw [loByte_toNat, word16_toNat]; omega

@[simp] theorem word16_hiByte_loByte (w : Word) : word16 (hiByte w) (loByte w) = w := by
  apply BitVec.eq_of_toNat_eq; rw [word16_toNat, hiByte_toNat, loByte_toNat]; omega

@[simp] theorem loByte_zext16 (b : Byte) : loByte (zext16 b) = b := by
  apply BitVec.eq_of_toNat_eq; rw [loByte_toNat, zext16_toNat]; omega

/-- A bit the byte has not got is not written. -/
theorem setBit_of_ge (b : Byte) (i : Nat) (v : Bool) (hi : 8 ≤ i) : setBit b i v = b := by
  have h : 1#8 <<< i = 0#8 := by ext j hj; simp; omega
  cases v
  · simp only [setBit, h, Bool.false_eq_true, if_false]; exact BitVec.and_allOnes
  · simp [setBit, h]

/-- Writing one bit leaves the others. -/
theorem getLsbD_setBit (b : Byte) (i j : Nat) (v : Bool) (hi : i < 8) :
    (setBit b i v).getLsbD j = if j = i then v else b.getLsbD j := by
  unfold setBit
  by_cases hj : j < 8
  · by_cases h : j = i
    · subst h; cases v <;> simp [hj]
    · have : ¬ (i ≤ j ∧ j < i + 1) := by omega
      cases v <;> simp [h, hj] <;> omega
  · have h : j ≠ i := by omega
    have hb : b.getLsbD j = false := BitVec.getLsbD_of_ge _ _ (by omega)
    cases v <;> simp [h, hj, hb]

theorem isOdd_iff (b : Byte) : isOdd b = true ↔ b.toNat % 2 = 1 := by
  simp [isOdd, BitVec.getLsbD, Nat.testBit_zero]

namespace Machine

theorem getLsbD_setBitIf (b : Byte) (i j : Nat) (o : Option Bool) (hi : i < 8) :
    (setBitIf b i o).getLsbD j = if j = i then o.getD (b.getLsbD j) else b.getLsbD j := by
  cases o with
  | none => simp [setBitIf]
  | some v => simp [setBitIf, getLsbD_setBit _ _ _ _ hi]

/-- What a layout with a bit of its own for each flag says of two flags. -/
theorem FlagBits.at_ne {l : FlagBits} (hl : l.wf = true) {x y : Flag} (h : x ≠ y) : (l.at x).val ≠ (l.at y).val := by
  have hp := of_decide_eq_true hl
  simp only [List.pairwise_cons, List.mem_cons, List.not_mem_nil, or_false, forall_eq_or_imp, forall_eq] at hp
  obtain ⟨⟨cz, cs, cv, cd, ch⟩, ⟨zs, zv, zd, zh⟩, ⟨sv, sd, sh⟩, ⟨vd, vh⟩, dh, -⟩ := hp
  intro e
  have e := Fin.ext e
  cases x <;> cases y <;> simp only [FlagBits.at] at e <;> first | exact absurd rfl h | exact absurd e ‹_› | exact absurd e.symm ‹_›

/-- A flag an update leaves alone, in a layout of any kind. -/
theorem getLsbD_applyFlags_of_none (l : FlagBits) (f : Byte) (u : FlagUpd) (j : Nat)
    (hj : ∀ x, u.at x ≠ none → (l.at x).val ≠ j) : (applyFlags l f u).getLsbD j = f.getLsbD j := by
  have step : ∀ (b : Byte) (x : Flag), (setBitIf b (l.at x) (u.at x)).getLsbD j = b.getLsbD j := by
    intro b x
    cases hu : u.at x with
    | none => rfl
    | some v =>
      have := (hj x (by simp [hu])).symm
      simp [setBitIf, getLsbD_setBit _ _ _ _ (l.at x).isLt, this]
  exact (step _ .h).trans ((step _ .d).trans ((step _ .v).trans ((step _ .s).trans ((step _ .z).trans (step _ .c)))))

/-- A bit that holds no flag is not changed by an update. -/
theorem user_applyFlags (l : FlagBits) (f : Byte) (u : FlagUpd) (j : Nat) (hj : ∀ x, (l.at x).val ≠ j) :
    (applyFlags l f u).getLsbD j = f.getLsbD j := getLsbD_applyFlags_of_none l f u j fun x _ => hj x

/-- What an update does to each flag. -/
@[simp] theorem flag_applyFlags {l : FlagBits} (hl : l.wf = true) (x : Flag) (f : Byte) (u : FlagUpd) :
    flag l x (applyFlags l f u) = (u.at x).getD (flag l x f) := by
  have step : ∀ (b : Byte) (y : Flag),
      flag l x (setBitIf b (l.at y) (u.at y)) = if x = y then (u.at y).getD (flag l x b) else flag l x b := by
    intro b y
    rw [flag, getLsbD_setBitIf _ _ _ _ (l.at y).isLt]
    by_cases h : x = y
    · subst h; rw [if_pos rfl, if_pos rfl]; rfl
    · rw [if_neg (FlagBits.at_ne hl h), if_neg h]; rfl
  rw [show applyFlags l f u = setBitIf (setBitIf (setBitIf (setBitIf (setBitIf (setBitIf f (l.at .c) (u.at .c))
    (l.at .z) (u.at .z)) (l.at .s) (u.at .s)) (l.at .v) (u.at .v)) (l.at .d) (u.at .d)) (l.at .h) (u.at .h) from rfl]
  simp only [step]
  cases x <;> simp

end Machine

end Sys2Proof
end

