-- ==== Sys2Proof/Laws/Encoding.lean ====
section
/-! SUPPORT. The small lemmas of the decoder and the encoder. -/

namespace Sys2Proof

/-- The operand byte of an encodable register operand decodes to it. -/
theorem ofByte_toByte {o : RegOp} (h : o.encodable = true) : RegOp.ofByte o.toByte = o := by
  cases o with
  | reg a =>
    have ha : hiNib a ≠ 0xE := by simpa [RegOp.encodable] using h
    rw [RegOp.toByte, RegOp.ofByte, if_neg ha]
  | wr n => simp [RegOp.toByte, RegOp.ofByte]

@[simp] theorem encodable_ofByte (b : Byte) : (RegOp.ofByte b).encodable = true := by
  unfold RegOp.ofByte
  split
  · rfl
  · next h => simpa [RegOp.encodable] using h

@[simp] theorem toByte_ofByte (b : Byte) : (RegOp.ofByte b).toByte = b := by
  unfold RegOp.ofByte
  split
  · next h => rw [RegOp.toByte, ← h, nibbles_hiNib_loNib]
  · rfl

@[simp] theorem ofNibble_toNibble (cc : Cond) : Cond.ofNibble cc.toNibble = cc := by cases cc <;> rfl

@[simp] theorem toNibble_ofNibble (n : Nibble) : (Cond.ofNibble n).toNibble = n := by revert n; decide

/-! What each format reads. -/

theorem f1_ok {k i : Instr} {bs rest : List Byte} : f1 k bs = .ok (i, rest) ↔ bs = rest ∧ i = k := by
  simp only [f1, Except.ok.injEq, Prod.mk.injEq]
  exact ⟨fun ⟨h1, h2⟩ => ⟨h2, h1.symm⟩, fun ⟨h1, h2⟩ => ⟨h2.symm, h1⟩⟩

theorem f2_ok {k : Byte → Instr} {i : Instr} {bs rest : List Byte} :
    f2 k bs = .ok (i, rest) ↔ ∃ b1, bs = b1 :: rest ∧ i = k b1 := by
  match bs with
  | [] => simp [f2]
  | b1 :: bs =>
    simp only [f2, Except.ok.injEq, Prod.mk.injEq, List.cons.injEq]
    constructor
    · rintro ⟨rfl, rfl⟩; exact ⟨_, ⟨rfl, rfl⟩, rfl⟩
    · rintro ⟨_, ⟨rfl, rfl⟩, rfl⟩; exact ⟨rfl, rfl⟩

theorem f3_ok {k : Byte → Byte → Instr} {i : Instr} {bs rest : List Byte} :
    f3 k bs = .ok (i, rest) ↔ ∃ b1 b2, bs = b1 :: b2 :: rest ∧ i = k b1 b2 := by
  match bs with
  | [] => simp [f3]
  | [_] => simp [f3]
  | b1 :: b2 :: bs =>
    simp only [f3, Except.ok.injEq, Prod.mk.injEq, List.cons.injEq]
    constructor
    · rintro ⟨rfl, rfl⟩; exact ⟨_, _, ⟨rfl, rfl, rfl⟩, rfl⟩
    · rintro ⟨_, _, ⟨rfl, rfl, rfl⟩, rfl⟩; exact ⟨rfl, rfl⟩

/-! The columns whose opcode byte holds an operand in its high nibble (30_encoding.md R104). -/

theorem reader_nibbles_8 (n : Nibble) : reader (nibbles n 0x8) = f2R (.ld_r_R n) := by simp [reader]

theorem reader_nibbles_9 (n : Nibble) : reader (nibbles n 0x9) = f2 fun b1 => .ld_R_r b1 n := by simp [reader]

theorem reader_nibbles_A (n : Nibble) : reader (nibbles n 0xA) = f2 (.djnz_r_RA n) := by simp [reader]

theorem reader_nibbles_B (n : Nibble) : reader (nibbles n 0xB) = f2 (.jr_cc_RA (Cond.ofNibble n)) := by simp [reader]

theorem reader_nibbles_C (n : Nibble) : reader (nibbles n 0xC) = f2 (.ld_r_IM n) := by simp [reader]

theorem reader_nibbles_D (n : Nibble) : reader (nibbles n 0xD) = f3a (.jp_cc_DA (Cond.ofNibble n)) := by simp [reader]

theorem reader_nibbles_E (n : Nibble) : reader (nibbles n 0xE) = f1 (.inc_r n) := by simp [reader]

theorem opLength_nibbles_8 (n : Nibble) : opLength (nibbles n 0x8) = 2 := by simp [opLength]

theorem opLength_nibbles_9 (n : Nibble) : opLength (nibbles n 0x9) = 2 := by simp [opLength]

theorem opLength_nibbles_A (n : Nibble) : opLength (nibbles n 0xA) = 2 := by simp [opLength]

theorem opLength_nibbles_B (n : Nibble) : opLength (nibbles n 0xB) = 2 := by simp [opLength]

theorem opLength_nibbles_C (n : Nibble) : opLength (nibbles n 0xC) = 2 := by simp [opLength]

theorem opLength_nibbles_D (n : Nibble) : opLength (nibbles n 0xD) = 3 := by simp [opLength]

theorem opLength_nibbles_E (n : Nibble) : opLength (nibbles n 0xE) = 1 := by simp [opLength]

/-- A byte by its two nibbles. -/
theorem eq_of_nibbles {b : Byte} {h l : Nat} (hh : (hiNib b).toNat = h) (hl : (loNib b).toNat = l) :
    b = BitVec.ofNat 8 (16 * h + l) := by
  rw [hiNib_toNat] at hh
  rw [loNib_toNat] at hl
  apply BitVec.eq_of_toNat_eq
  simp
  omega

end Sys2Proof
end

