-- ==== Sys2Proof/Laws/Memory.lean ====
section
/-! SUPPORT. The canonical form of the byte memories: every memory operation keeps it. -/

namespace Sys2Proof.Machine

@[simp] theorem memRead_nil (a : Nat) : memRead [] a = memBlank := rfl

theorem memRead_cons (k : Nat) (v : Byte) (m : Mem) (a : Nat) :
    memRead ((k, v) :: m) a = if a = k then v else memRead m a := rfl

theorem memSorted_cons (lo k : Nat) (v : Byte) (m : Mem) :
    memSorted lo ((k, v) :: m) = true ↔ lo ≤ k ∧ k < 65536 ∧ v ≠ memBlank ∧ memSorted (k + 1) m = true := by
  simp [memSorted, and_assoc]

theorem memSorted_le {lo lo' : Nat} {m : Mem} (h : memSorted lo m = true) (hle : lo' ≤ lo) : memSorted lo' m = true := by
  cases m with
  | nil => rfl
  | cons c m => obtain ⟨k, v⟩ := c; rw [memSorted_cons] at *; exact ⟨by omega, h.2⟩

/-- Below its first entry a canonical memory reads as blank. -/
theorem memRead_of_lt {lo a : Nat} {m : Mem} (h : memSorted lo m = true) (ha : a < lo) : memRead m a = memBlank := by
  induction m generalizing lo with
  | nil => rfl
  | cons c m ih =>
    obtain ⟨k, v⟩ := c
    rw [memSorted_cons] at h
    rw [memRead_cons, if_neg (by omega)]
    exact ih h.2.2.2 (by omega)

theorem memSorted_memErase {lo : Nat} {m : Mem} (a : Nat) (h : memSorted lo m = true) :
    memSorted lo (memErase m a) = true := by
  induction m generalizing lo with
  | nil => rfl
  | cons c m ih =>
    obtain ⟨k, v⟩ := c
    rw [memSorted_cons] at h
    unfold memErase
    split
    · exact memSorted_le h.2.2.2 (by omega)
    · rw [memSorted_cons]; exact ⟨h.1, h.2.1, h.2.2.1, ih h.2.2.2⟩

theorem memSorted_memInsert {lo a : Nat} {m : Mem} {v : Byte} (h : memSorted lo m = true) (hlo : lo ≤ a) (ha : a < 65536)
    (hv : v ≠ memBlank) : memSorted lo (memInsert m a v) = true := by
  induction m generalizing lo with
  | nil => rw [memInsert, memSorted_cons]; exact ⟨hlo, ha, hv, rfl⟩
  | cons c m ih =>
    obtain ⟨k, w⟩ := c
    rw [memSorted_cons] at h
    unfold memInsert
    split
    · rw [memSorted_cons, memSorted_cons]; exact ⟨hlo, ha, hv, by omega, h.2⟩
    · split
      · subst_vars; rw [memSorted_cons]; exact ⟨hlo, ha, hv, h.2.2.2⟩
      · rw [memSorted_cons]; exact ⟨h.1, h.2.1, h.2.2.1, ih h.2.2.2 (by omega)⟩

/-- A write keeps the canonical form. -/
theorem memWf_memWrite {m : Mem} (a : Nat) (v : Byte) (h : memWf m = true) (ha : a < 65536) :
    memWf (memWrite m a v) = true := by
  unfold memWrite
  split
  · exact memSorted_memErase a h
  · exact memSorted_memInsert h (by omega) ha ‹_›

/-- Whatever cells are listed, the memory made of them is canonical. -/
theorem memWf_memOfCells (cs : List Host.Cell) : memWf (memOfCells cs) = true := by
  induction cs with
  | nil => rfl
  | cons c cs ih => obtain ⟨a, v⟩ := c; exact memWf_memWrite _ _ ih (by omega)

/-- The memories after reset are canonical. -/
theorem memWf_reset : memWf State.reset.prog = true ∧ memWf State.reset.data = true := ⟨rfl, rfl⟩

end Sys2Proof.Machine
end

