-- ==== Sys2Proof/Laws/State.lean ====
section
/-! SUPPORT. One lemma per field per named update of the state, so that no proof unfolds a record update. -/

namespace Sys2Proof.Machine

/-! ## retire, jump, advance -/

@[simp] theorem State.retire_chip (s : State) : s.retire.chip = s.chip := rfl
@[simp] theorem State.retire_gpr (s : State) : s.retire.gpr = s.gpr := rfl
@[simp] theorem State.retire_banks (s : State) : s.retire.banks = s.banks := rfl
@[simp] theorem State.retire_imr (s : State) : s.retire.imr = s.imr := rfl
@[simp] theorem State.retire_flags (s : State) : s.retire.flags = s.flags := rfl
@[simp] theorem State.retire_rp (s : State) : s.retire.rp = s.rp := rfl
@[simp] theorem State.retire_sph (s : State) : s.retire.sph = s.sph := rfl
@[simp] theorem State.retire_spl (s : State) : s.retire.spl = s.spl := rfl
@[simp] theorem State.retire_pc (s : State) : s.retire.pc = s.pc := rfl
@[simp] theorem State.retire_prog (s : State) : s.retire.prog = s.prog := rfl
@[simp] theorem State.retire_data (s : State) : s.retire.data = s.data := rfl
@[simp] theorem State.retire_runState (s : State) : s.retire.runState = s.runState := rfl
@[simp] theorem State.retire_wdtEnabled (s : State) : s.retire.wdtEnabled = s.wdtEnabled := rfl
@[simp] theorem State.retire_wdtInHalt (s : State) : s.retire.wdtInHalt = s.wdtInHalt := rfl
@[simp] theorem State.retire_wdtCount (s : State) : s.retire.wdtCount = s.wdtCount := rfl
@[simp] theorem State.retire_pending (s : State) : s.retire.pending = s.pending := rfl
@[simp] theorem State.retire_prevNop (s : State) : s.retire.prevNop = false := rfl
@[simp] theorem State.retire_deviceWrites (s : State) : s.retire.deviceWrites = s.deviceWrites := rfl
@[simp] theorem State.retire_time (s : State) : s.retire.time = s.time + 1 := rfl
@[simp] theorem State.retire_inputs (s : State) : s.retire.inputs = s.inputs := rfl

@[simp] theorem State.advance_chip (s : State) : s.advance.chip = s.chip := rfl
@[simp] theorem State.advance_gpr (s : State) : s.advance.gpr = s.gpr := rfl
@[simp] theorem State.advance_banks (s : State) : s.advance.banks = s.banks := rfl
@[simp] theorem State.advance_imr (s : State) : s.advance.imr = s.imr := rfl
@[simp] theorem State.advance_flags (s : State) : s.advance.flags = s.flags := rfl
@[simp] theorem State.advance_rp (s : State) : s.advance.rp = s.rp := rfl
@[simp] theorem State.advance_sph (s : State) : s.advance.sph = s.sph := rfl
@[simp] theorem State.advance_spl (s : State) : s.advance.spl = s.spl := rfl
@[simp] theorem State.advance_pc (s : State) : s.advance.pc = s.pc + BitVec.ofNat 16 (opLength (s.progByte s.pc)) := rfl
@[simp] theorem State.advance_prog (s : State) : s.advance.prog = s.prog := rfl
@[simp] theorem State.advance_data (s : State) : s.advance.data = s.data := rfl
@[simp] theorem State.advance_runState (s : State) : s.advance.runState = s.runState := rfl
@[simp] theorem State.advance_wdtEnabled (s : State) : s.advance.wdtEnabled = s.wdtEnabled := rfl
@[simp] theorem State.advance_wdtInHalt (s : State) : s.advance.wdtInHalt = s.wdtInHalt := rfl
@[simp] theorem State.advance_wdtCount (s : State) : s.advance.wdtCount = s.wdtCount := rfl
@[simp] theorem State.advance_pending (s : State) : s.advance.pending = s.pending := rfl
@[simp] theorem State.advance_prevNop (s : State) : s.advance.prevNop = s.prevNop := rfl
@[simp] theorem State.advance_deviceWrites (s : State) : s.advance.deviceWrites = s.deviceWrites := rfl
@[simp] theorem State.advance_time (s : State) : s.advance.time = s.time := rfl
@[simp] theorem State.advance_inputs (s : State) : s.advance.inputs = s.inputs := rfl

@[simp] theorem State.jump_chip (s : State) (t : Word) : (s.jump t).chip = s.chip := rfl
@[simp] theorem State.jump_gpr (s : State) (t : Word) : (s.jump t).gpr = s.gpr := rfl
@[simp] theorem State.jump_banks (s : State) (t : Word) : (s.jump t).banks = s.banks := rfl
@[simp] theorem State.jump_imr (s : State) (t : Word) : (s.jump t).imr = s.imr := rfl
@[simp] theorem State.jump_flags (s : State) (t : Word) : (s.jump t).flags = s.flags := rfl
@[simp] theorem State.jump_rp (s : State) (t : Word) : (s.jump t).rp = s.rp := rfl
@[simp] theorem State.jump_sph (s : State) (t : Word) : (s.jump t).sph = s.sph := rfl
@[simp] theorem State.jump_spl (s : State) (t : Word) : (s.jump t).spl = s.spl := rfl
@[simp] theorem State.jump_pc (s : State) (t : Word) : (s.jump t).pc = t := rfl
@[simp] theorem State.jump_prog (s : State) (t : Word) : (s.jump t).prog = s.prog := rfl
@[simp] theorem State.jump_data (s : State) (t : Word) : (s.jump t).data = s.data := rfl
@[simp] theorem State.jump_runState (s : State) (t : Word) : (s.jump t).runState = s.runState := rfl
@[simp] theorem State.jump_wdtEnabled (s : State) (t : Word) : (s.jump t).wdtEnabled = s.wdtEnabled := rfl
@[simp] theorem State.jump_wdtInHalt (s : State) (t : Word) : (s.jump t).wdtInHalt = s.wdtInHalt := rfl
@[simp] theorem State.jump_wdtCount (s : State) (t : Word) : (s.jump t).wdtCount = s.wdtCount := rfl
@[simp] theorem State.jump_pending (s : State) (t : Word) : (s.jump t).pending = s.pending := rfl
@[simp] theorem State.jump_prevNop (s : State) (t : Word) : (s.jump t).prevNop = s.prevNop := rfl
@[simp] theorem State.jump_deviceWrites (s : State) (t : Word) : (s.jump t).deviceWrites = s.deviceWrites := rfl
@[simp] theorem State.jump_time (s : State) (t : Word) : (s.jump t).time = s.time := rfl
@[simp] theorem State.jump_inputs (s : State) (t : Word) : (s.jump t).inputs = s.inputs := rfl

/-! ## withFlags: the flags of FCH alone -/

@[simp] theorem State.withFlags_chip (s : State) (u : FlagUpd) : (s.withFlags u).chip = s.chip := rfl
@[simp] theorem State.withFlags_gpr (s : State) (u : FlagUpd) : (s.withFlags u).gpr = s.gpr := rfl
@[simp] theorem State.withFlags_banks (s : State) (u : FlagUpd) : (s.withFlags u).banks = s.banks := rfl
@[simp] theorem State.withFlags_imr (s : State) (u : FlagUpd) : (s.withFlags u).imr = s.imr := rfl
@[simp] theorem State.withFlags_flags (s : State) (u : FlagUpd) :
    (s.withFlags u).flags = applyFlags s.chip.flagBits s.flags u := rfl
@[simp] theorem State.withFlags_rp (s : State) (u : FlagUpd) : (s.withFlags u).rp = s.rp := rfl
@[simp] theorem State.withFlags_sph (s : State) (u : FlagUpd) : (s.withFlags u).sph = s.sph := rfl
@[simp] theorem State.withFlags_spl (s : State) (u : FlagUpd) : (s.withFlags u).spl = s.spl := rfl
@[simp] theorem State.withFlags_pc (s : State) (u : FlagUpd) : (s.withFlags u).pc = s.pc := rfl
@[simp] theorem State.withFlags_prog (s : State) (u : FlagUpd) : (s.withFlags u).prog = s.prog := rfl
@[simp] theorem State.withFlags_data (s : State) (u : FlagUpd) : (s.withFlags u).data = s.data := rfl
@[simp] theorem State.withFlags_runState (s : State) (u : FlagUpd) : (s.withFlags u).runState = s.runState := rfl
@[simp] theorem State.withFlags_wdtEnabled (s : State) (u : FlagUpd) : (s.withFlags u).wdtEnabled = s.wdtEnabled := rfl
@[simp] theorem State.withFlags_wdtInHalt (s : State) (u : FlagUpd) : (s.withFlags u).wdtInHalt = s.wdtInHalt := rfl
@[simp] theorem State.withFlags_wdtCount (s : State) (u : FlagUpd) : (s.withFlags u).wdtCount = s.wdtCount := rfl
@[simp] theorem State.withFlags_pending (s : State) (u : FlagUpd) : (s.withFlags u).pending = s.pending := rfl
@[simp] theorem State.withFlags_prevNop (s : State) (u : FlagUpd) : (s.withFlags u).prevNop = s.prevNop := rfl
@[simp] theorem State.withFlags_deviceWrites (s : State) (u : FlagUpd) : (s.withFlags u).deviceWrites = s.deviceWrites := rfl
@[simp] theorem State.withFlags_time (s : State) (u : FlagUpd) : (s.withFlags u).time = s.time := rfl
@[simp] theorem State.withFlags_inputs (s : State) (u : FlagUpd) : (s.withFlags u).inputs = s.inputs := rfl

/-! ## setSp: only the halves of SP the stack in use has -/

@[simp] theorem State.setSp_chip (s : State) (a : Word) : (s.setSp a).chip = s.chip := by
  unfold State.setSp; split <;> rfl
@[simp] theorem State.setSp_gpr (s : State) (a : Word) : (s.setSp a).gpr = s.gpr := by
  unfold State.setSp; split <;> rfl
@[simp] theorem State.setSp_banks (s : State) (a : Word) : (s.setSp a).banks = s.banks := by
  unfold State.setSp; split <;> rfl
@[simp] theorem State.setSp_imr (s : State) (a : Word) : (s.setSp a).imr = s.imr := by
  unfold State.setSp; split <;> rfl
@[simp] theorem State.setSp_flags (s : State) (a : Word) : (s.setSp a).flags = s.flags := by
  unfold State.setSp; split <;> rfl
@[simp] theorem State.setSp_rp (s : State) (a : Word) : (s.setSp a).rp = s.rp := by
  unfold State.setSp; split <;> rfl
@[simp] theorem State.setSp_sph (s : State) (a : Word) :
    (s.setSp a).sph = if s.chip.stackExternal then hiByte a else s.sph := by unfold State.setSp; split <;> rfl
@[simp] theorem State.setSp_spl (s : State) (a : Word) : (s.setSp a).spl = loByte a := by
  unfold State.setSp; split <;> rfl
@[simp] theorem State.setSp_pc (s : State) (a : Word) : (s.setSp a).pc = s.pc := by
  unfold State.setSp; split <;> rfl
@[simp] theorem State.setSp_prog (s : State) (a : Word) : (s.setSp a).prog = s.prog := by
  unfold State.setSp; split <;> rfl
@[simp] theorem State.setSp_data (s : State) (a : Word) : (s.setSp a).data = s.data := by
  unfold State.setSp; split <;> rfl
@[simp] theorem State.setSp_runState (s : State) (a : Word) : (s.setSp a).runState = s.runState := by
  unfold State.setSp; split <;> rfl
@[simp] theorem State.setSp_wdtEnabled (s : State) (a : Word) : (s.setSp a).wdtEnabled = s.wdtEnabled := by
  unfold State.setSp; split <;> rfl
@[simp] theorem State.setSp_wdtInHalt (s : State) (a : Word) : (s.setSp a).wdtInHalt = s.wdtInHalt := by
  unfold State.setSp; split <;> rfl
@[simp] theorem State.setSp_wdtCount (s : State) (a : Word) : (s.setSp a).wdtCount = s.wdtCount := by
  unfold State.setSp; split <;> rfl
@[simp] theorem State.setSp_pending (s : State) (a : Word) : (s.setSp a).pending = s.pending := by
  unfold State.setSp; split <;> rfl
@[simp] theorem State.setSp_prevNop (s : State) (a : Word) : (s.setSp a).prevNop = s.prevNop := by
  unfold State.setSp; split <;> rfl
@[simp] theorem State.setSp_deviceWrites (s : State) (a : Word) : (s.setSp a).deviceWrites = s.deviceWrites := by
  unfold State.setSp; split <;> rfl
@[simp] theorem State.setSp_time (s : State) (a : Word) : (s.setSp a).time = s.time := by
  unfold State.setSp; split <;> rfl
@[simp] theorem State.setSp_inputs (s : State) (a : Word) : (s.setSp a).inputs = s.inputs := by
  unfold State.setSp; split <;> rfl

/-! ## store: the one register written, and no other field -/

@[simp] theorem State.store_chip (s : State) (l : RegLoc) (v : Byte) : (s.store l v).chip = s.chip := by cases l <;> rfl
@[simp] theorem State.store_pc (s : State) (l : RegLoc) (v : Byte) : (s.store l v).pc = s.pc := by cases l <;> rfl
@[simp] theorem State.store_prog (s : State) (l : RegLoc) (v : Byte) : (s.store l v).prog = s.prog := by cases l <;> rfl
@[simp] theorem State.store_data (s : State) (l : RegLoc) (v : Byte) : (s.store l v).data = s.data := by cases l <;> rfl
@[simp] theorem State.store_runState (s : State) (l : RegLoc) (v : Byte) : (s.store l v).runState = s.runState := by cases l <;> rfl
@[simp] theorem State.store_wdtEnabled (s : State) (l : RegLoc) (v : Byte) : (s.store l v).wdtEnabled = s.wdtEnabled := by cases l <;> rfl
@[simp] theorem State.store_wdtInHalt (s : State) (l : RegLoc) (v : Byte) : (s.store l v).wdtInHalt = s.wdtInHalt := by cases l <;> rfl
@[simp] theorem State.store_wdtCount (s : State) (l : RegLoc) (v : Byte) : (s.store l v).wdtCount = s.wdtCount := by cases l <;> rfl
@[simp] theorem State.store_pending (s : State) (l : RegLoc) (v : Byte) : (s.store l v).pending = s.pending := by cases l <;> rfl
@[simp] theorem State.store_prevNop (s : State) (l : RegLoc) (v : Byte) : (s.store l v).prevNop = s.prevNop := by cases l <;> rfl
@[simp] theorem State.store_time (s : State) (l : RegLoc) (v : Byte) : (s.store l v).time = s.time := by cases l <;> rfl
@[simp] theorem State.store_inputs (s : State) (l : RegLoc) (v : Byte) : (s.store l v).inputs = s.inputs := by cases l <;> rfl

theorem State.store_rp_of_ne (s : State) {l : RegLoc} (v : Byte) (h : l ≠ .rp) : (s.store l v).rp = s.rp := by
  cases l <;> first | rfl | exact absurd rfl h

theorem State.store_flags_of_ne (s : State) {l : RegLoc} (v : Byte) (h : l ≠ .flags) : (s.store l v).flags = s.flags := by
  cases l <;> first | rfl | exact absurd rfl h

theorem State.store_imr_of_ne (s : State) {l : RegLoc} (v : Byte) (h : l ≠ .imr) : (s.store l v).imr = s.imr := by
  cases l <;> first | rfl | exact absurd rfl h

theorem State.store_sph_of_ne (s : State) {l : RegLoc} (v : Byte) (h : l ≠ .sph) : (s.store l v).sph = s.sph := by
  cases l <;> first | rfl | exact absurd rfl h

theorem State.store_spl_of_ne (s : State) {l : RegLoc} (v : Byte) (h : l ≠ .spl) : (s.store l v).spl = s.spl := by
  cases l <;> first | rfl | exact absurd rfl h

/-- A register that is not the oracle's reads as what was stored in it. -/
theorem State.valueAt_store_same (s : State) (k : ReadSlot) {l : RegLoc} (v : Byte) (h : ∀ a, l ≠ .device a) :
    (s.store l v).valueAt k l = v := by
  cases l with
  | gpr i => simp [State.store, State.valueAt, Vector.get_eq_getElem]
  | bank i => simp [State.store, State.valueAt, Vector.get_eq_getElem]
  | device a => exact absurd rfl (h a)
  | _ => rfl

/-- Storing in one register leaves every other. -/
theorem State.valueAt_store_ne (s : State) (k : ReadSlot) {l l' : RegLoc} (v : Byte) (h : l' ≠ l) :
    (s.store l v).valueAt k l' = s.valueAt k l' := by
  cases l <;> cases l' <;>
    simp_all [State.store, State.valueAt, Vector.get_eq_getElem, Fin.ext_iff, eq_comm]

/-! ## The RESET event -/

@[simp] theorem State.resetEvent_chip (s : State) : s.resetEvent.chip = s.chip := by simp only [State.resetEvent]
@[simp] theorem State.resetEvent_prog (s : State) : s.resetEvent.prog = s.prog := by simp only [State.resetEvent]
@[simp] theorem State.resetEvent_pc (s : State) : s.resetEvent.pc = 0x000C := by simp only [State.resetEvent]
@[simp] theorem State.resetEvent_runState (s : State) : s.resetEvent.runState = .run := by simp only [State.resetEvent]
@[simp] theorem State.resetEvent_prevNop (s : State) : s.resetEvent.prevNop = false := by simp only [State.resetEvent]
@[simp] theorem State.resetEvent_wdtEnabled (s : State) : s.resetEvent.wdtEnabled = false := by simp only [State.resetEvent]
@[simp] theorem State.resetEvent_wdtInHalt (s : State) : s.resetEvent.wdtInHalt = false := by simp only [State.resetEvent]
@[simp] theorem State.resetEvent_wdtCount (s : State) : s.resetEvent.wdtCount = 0 := by simp only [State.resetEvent]
@[simp] theorem State.resetEvent_inputs (s : State) : s.resetEvent.inputs = s.inputs := by simp only [State.resetEvent]
@[simp] theorem State.resetEvent_deviceWrites (s : State) : s.resetEvent.deviceWrites = s.deviceWrites := by simp only [State.resetEvent]
@[simp] theorem State.resetEvent_time (s : State) : s.resetEvent.time = s.time + 1 := by simp only [State.resetEvent]
@[simp] theorem State.resetEvent_data (s : State) : s.resetEvent.data = memOfCells (Config.resetData s.time) := by simp only [State.resetEvent]

end Sys2Proof.Machine
end

