-- ==== Sys2Proof/Laws/Ops.lean ====
section
/-! SUPPORT. For each shared operation one lemma that says once everything it can do: "it answers exactly if … and then
the answer is …". Later proofs cite these and unfold none of the operations. -/

namespace Sys2Proof.Machine

/-! ## Results of parts of an instruction -/

theorem bind_ok {α β : Type} {x : Res α} {f : α → Res β} {b : β} :
    (x >>= f) = .ok b ↔ ∃ a, x = .ok a ∧ f a = .ok b := by
  cases x with
  | error e => simp [bind, Except.bind]
  | ok a => simp [bind, Except.bind]

@[simp] theorem ok_bind {α β : Type} (a : α) (f : α → Res β) : ((.ok a : Res α) >>= f) = f a := rfl

@[simp] theorem error_bind {α β : Type} (e : Fault) (f : α → Res β) : ((.error e : Res α) >>= f) = .error e := rfl

theorem finish_next {r : Res State} {t : State} : finish r = .next t ↔ ∃ u, r = .ok u ∧ t = u.retire := by
  cases r with
  | error e => simp [finish]
  | ok u => simp [finish, eq_comm]

@[simp] theorem finish_ok (s : State) : finish (.ok s) = .next s.retire := rfl

@[simp] theorem finish_error (e : Fault) : finish (.error e) = .fault e := rfl

/-! ## Registers -/

theorem readReg_ok {s : State} {k : ReadSlot} {a v : Byte} :
    s.readReg k a = .ok v ↔ s.absent a = false ∧ s.valueAt k (s.loc a) = v := by
  unfold State.readReg; split <;> simp_all

theorem writeReg_ok {s t : State} {a v : Byte} :
    s.writeReg a v = .ok t ↔ s.absent a = false ∧ t = s.store (s.loc a) v := by
  unfold State.writeReg; split <;> simp_all; exact ⟨Eq.symm, Eq.symm⟩

theorem readReg_error {s : State} {k : ReadSlot} {a : Byte} {e : Fault} :
    s.readReg k a = .error e ↔ s.absent a = true ∧ e = .unimplementedRegister := by
  unfold State.readReg; split <;> simp_all; exact ⟨Eq.symm, Eq.symm⟩

theorem writeReg_error {s : State} {a v : Byte} {e : Fault} :
    s.writeReg a v = .error e ↔ s.absent a = true ∧ e = .unimplementedRegister := by
  unfold State.writeReg; split <;> simp_all; exact ⟨Eq.symm, Eq.symm⟩

/-- What an address reaches depends on the part and on RP alone. -/
theorem loc_congr {s t : State} (hc : t.chip = s.chip) (hr : t.rp = s.rp) (a : Byte) : t.loc a = s.loc a := by
  simp [State.loc, State.inBank, hc, hr]

theorem absent_congr {s t : State} (hc : t.chip = s.chip) (hr : t.rp = s.rp) (a : Byte) : t.absent a = s.absent a := by
  simp [State.absent, State.inBank, hc, hr]

theorem wrAddr_congr {s t : State} (hr : t.rp = s.rp) (n : Nibble) : t.wrAddr n = s.wrAddr n := by
  simp [State.wrAddr, hr]

/-- Addresses from 10H up reach bank 0 whatever bank is selected (10_state.md R24). -/
theorem inBank_of_high (s : State) {a : Byte} (h : 16 ≤ a.toNat) : s.inBank a = false := by
  have : hiNib a ≠ 0 := by
    intro h0
    have := congrArg BitVec.toNat h0
    rw [hiNib_toNat] at this; simp at this; omega
  unfold State.inBank; rw [beq_eq_false_iff_ne.mpr this, Bool.and_false, Bool.false_and]

theorem loc_of_high (s : State) {a : Byte} (h : 16 ≤ a.toNat) : s.loc a = bank0Loc a := by
  simp [State.loc, inBank_of_high s h]

theorem absent_of_high (s : State) {a : Byte} (h : 16 ≤ a.toNat) : s.absent a = s.chip.absentRegs.contains a := by
  simp [State.absent, inBank_of_high s h]

/-- Which address a control register has: none but its own, in any bank. -/
theorem loc_eq_imr {s : State} {a : Byte} : s.loc a = .imr ↔ a = 0xFB := by
  unfold State.loc bank0Loc State.inBank
  constructor
  · intro h; split at h <;> first | (split_ifs at h <;> assumption) | cases h
  · rintro rfl; simp [hiNib]

theorem loc_eq_flags {s : State} {a : Byte} : s.loc a = .flags ↔ a = 0xFC := by
  unfold State.loc bank0Loc State.inBank
  constructor
  · intro h; split at h <;> first | (split_ifs at h <;> assumption) | cases h
  · rintro rfl; simp [hiNib]

theorem loc_eq_rp {s : State} {a : Byte} : s.loc a = .rp ↔ a = 0xFD := by
  unfold State.loc bank0Loc State.inBank
  constructor
  · intro h; split at h <;> first | (split_ifs at h <;> assumption) | cases h
  · rintro rfl; simp [hiNib]

theorem loc_eq_sph {s : State} {a : Byte} : s.loc a = .sph ↔ a = 0xFE := by
  unfold State.loc bank0Loc State.inBank
  constructor
  · intro h; split at h <;> first | (split_ifs at h <;> assumption) | cases h
  · rintro rfl; simp [hiNib]

theorem loc_eq_spl {s : State} {a : Byte} : s.loc a = .spl ↔ a = 0xFF := by
  unfold State.loc bank0Loc State.inBank
  constructor
  · intro h; split at h <;> first | (split_ifs at h <;> assumption) | cases h
  · rintro rfl; simp [hiNib]

/-- An address in 04H to EFH reaches a general-purpose or a bank register. -/
theorem loc_of_general {s : State} {a : Byte} (h1 : 4 ≤ a.toNat) (h2 : a.toNat < 0xF0) :
    (∃ i, s.loc a = .gpr i) ∨ ∃ i, s.loc a = .bank i := by
  unfold State.loc bank0Loc
  split
  · exact .inr ⟨_, rfl⟩
  · rw [dif_pos ⟨h1, h2⟩]; exact .inl ⟨_, rfl⟩

/-! ## Memories -/

theorem readProg_ok {s : State} {a : Word} {v : Byte} :
    s.readProg a = .ok v ↔ s.reaches a = true ∧ s.progByte a = v := by
  unfold State.readProg; split <;> simp_all

theorem writeProg_ok {s t : State} {a : Word} {v : Byte} :
    s.writeProg a v = .ok t ↔
      s.mayWriteProg a = true ∧ s.inPipeline a = false ∧ t = { s with prog := memWrite s.prog a.toNat v } := by
  unfold State.writeProg; split_ifs <;> simp_all; exact ⟨Eq.symm, Eq.symm⟩

theorem readData_ok {s : State} {a : Word} {v : Byte} :
    s.readData a = .ok v ↔ s.chip.extData = true ∧ memRead s.data a.toNat = v := by
  unfold State.readData; split <;> simp_all

theorem writeData_ok {s t : State} {a : Word} {v : Byte} :
    s.writeData a v = .ok t ↔ s.chip.extData = true ∧ t = { s with data := memWrite s.data a.toNat v } := by
  unfold State.writeData; split <;> simp_all; exact ⟨Eq.symm, Eq.symm⟩

/-- The three bytes ahead of the PC (20_memory.md R76). -/
theorem inPipeline_iff {s : State} {a : Word} :
    s.inPipeline a = true ↔ a = s.pc ∨ a = s.pc + 1 ∨ a = s.pc + 2 := by
  simp only [State.inPipeline, decide_eq_true_eq]
  constructor
  · intro h; bv_omega
  · rintro (rfl | rfl | rfl) <;> bv_omega

/-! ## The stack -/

theorem stackRead_ok {s : State} {k : ReadSlot} {a : Word} {v : Byte} :
    s.stackRead k a = .ok v ↔
      (s.chip.stackExternal = true ∧ s.chip.extData = true ∧ memRead s.data a.toNat = v) ∨
      (s.chip.stackExternal = false ∧ s.absent (loByte a) = false ∧ s.valueAt k (s.loc (loByte a)) = v) := by
  unfold State.stackRead; split <;> simp_all [readData_ok, readReg_ok]

theorem stackWrite_ok {s t : State} {a : Word} {v : Byte} :
    s.stackWrite a v = .ok t ↔
      (s.chip.stackExternal = true ∧ s.chip.extData = true ∧ t = { s with data := memWrite s.data a.toNat v }) ∨
      (s.chip.stackExternal = false ∧ s.absent (loByte a) = false ∧ t = s.store (s.loc (loByte a)) v) := by
  unfold State.stackWrite; split <;> simp_all [writeData_ok, writeReg_ok]

theorem push8_ok {s t : State} {v : Byte} :
    s.push8 v = .ok t ↔ (s.setSp (s.stackAddr (s.sp - 1))).stackWrite (s.stackAddr (s.sp - 1)) v = .ok t := Iff.rfl

theorem pop8_ok {s : State} {k : ReadSlot} {r : Byte × State} :
    s.pop8 k = .ok r ↔ s.stackRead k s.sp = .ok r.1 ∧ r.2 = s.setSp (s.stackAddr (s.sp + 1)) := by
  obtain ⟨v, t⟩ := r
  simp only [State.pop8, bind_ok, pure, Except.pure, Except.ok.injEq, Prod.mk.injEq]
  constructor
  · rintro ⟨a, h, rfl, rfl⟩; exact ⟨h, rfl⟩
  · rintro ⟨h, rfl⟩; exact ⟨v, h, rfl, rfl⟩

theorem push16_ok {s t : State} {w : Word} :
    s.push16 w = .ok t ↔ ∃ u, (s.setSp (s.stackAddr (s.sp - 2))).stackWrite (s.stackAddr (s.sp - 2)) (hiByte w) = .ok u ∧
      u.stackWrite (s.stackAddr (s.stackAddr (s.sp - 2) + 1)) (loByte w) = .ok t := by
  simp only [State.push16, bind_ok]

theorem pop16_ok {s : State} {kh kl : ReadSlot} {r : Word × State} :
    s.pop16 kh kl = .ok r ↔ ∃ h l, s.stackRead kh s.sp = .ok h ∧ s.stackRead kl (s.stackAddr (s.sp + 1)) = .ok l ∧
      r = (word16 h l, s.setSp (s.stackAddr (s.sp + 2))) := by
  simp only [State.pop16, bind_ok, pure, Except.pure, Except.ok.injEq]
  constructor
  · rintro ⟨h, h1, l, h2, h3⟩; exact ⟨h, l, h1, h2, h3.symm⟩
  · rintro ⟨h, l, h1, h2, h3⟩; exact ⟨h, h1, l, h2, h3.symm⟩

/-! ## Pairs -/

theorem readPair_ok {s : State} {p : Byte} {w : Word} :
    s.readPair p = .ok w ↔ ∃ h l, s.readReg .pairHi p = .ok h ∧ s.readReg .pairLo (p + 1) = .ok l ∧ w = word16 h l := by
  simp only [State.readPair, bind_ok, pure, Except.pure, Except.ok.injEq]
  constructor
  · rintro ⟨h, h1, l, h2, h3⟩; exact ⟨h, l, h1, h2, h3.symm⟩
  · rintro ⟨h, l, h1, h2, h3⟩; exact ⟨h, h1, l, h2, h3.symm⟩

theorem evenPair_ok {p q : Byte} : evenPair p = .ok q ↔ isOdd p = false ∧ q = p := by
  unfold evenPair; split <;> simp_all; exact ⟨Eq.symm, Eq.symm⟩

theorem readWrPair_ok {s : State} {m : Nibble} {w : Word} :
    s.readWrPair m = .ok w ↔ m.getLsbD 0 = false ∧
      ∃ h l, s.readWr .pairHi m = .ok h ∧ s.readWr .pairLo (m + 1) = .ok l ∧ w = word16 h l := by
  unfold State.readWrPair
  split
  · simp_all
  · simp only [bind_ok, pure, Except.pure, Except.ok.injEq]
    constructor
    · rintro ⟨h, h1, l, h2, h3⟩; exact ⟨Bool.eq_false_iff.mpr ‹_›, h, l, h1, h2, h3.symm⟩
    · rintro ⟨-, h, l, h1, h2, h3⟩; exact ⟨h, h1, l, h2, h3.symm⟩

/-! ## Operands -/

theorem srcVal_place_ok {s : State} {p : Place} {v : Byte} :
    s.srcVal (.place p) = .ok v ↔ ∃ a, s.placeAddr .srcPtr p = .ok a ∧ s.readReg .src a = .ok v := by
  simp only [State.srcVal, bind_ok]

theorem writeWithFlags_ok {s t : State} {a r : Byte} {u : FlagUpd} :
    s.writeWithFlags a r u = .ok t ↔ a ≠ 0xFC ∧ s.absent a = false ∧
      t = { s.store (s.loc a) r with flags := applyFlags s.chip.flagBits s.flags u } := by
  unfold State.writeWithFlags
  by_cases h : a = flagsAddr
  · rw [if_pos h]; simp [h, flagsAddr]
  · have h' : a ≠ 0xFC := h
    rw [if_neg h]
    simp only [bind_ok, writeReg_ok, pure, Except.pure, Except.ok.injEq]
    have hf := State.store_flags_of_ne s (l := s.loc a) r (fun e => h (loc_eq_flags.mp e))
    constructor
    · rintro ⟨s1, ⟨h1, rfl⟩, rfl⟩; exact ⟨h', h1, by rw [State.withFlags, hf, State.store_chip]⟩
    · rintro ⟨-, h1, rfl⟩; exact ⟨_, ⟨h1, rfl⟩, by rw [State.withFlags, hf, State.store_chip]⟩

/-! ## The shapes of instruction -/

theorem alu2_next {f : Byte → Byte → Bool → Byte × FlagUpd} {dst : Place} {src : Source} {s t : State} :
    alu2 f dst src s = .next t ↔ ∃ a v d, s.dstAddr dst = .ok a ∧ s.srcVal src = .ok v ∧ s.readReg .dst a = .ok d ∧
      a ≠ 0xFC ∧ t = { s.store (s.loc a) (f d v (s.flag .c)).1 with
        flags := applyFlags s.chip.flagBits s.flags (f d v (s.flag .c)).2 }.retire := by
  simp only [alu2, finish_next, bind_ok, writeWithFlags_ok]
  constructor
  · rintro ⟨u, ⟨a, h1, v, h2, d, h3, h4, h5, rfl⟩, rfl⟩; exact ⟨a, v, d, h1, h2, h3, h4, rfl⟩
  · rintro ⟨a, v, d, h1, h2, h3, h4, rfl⟩
    exact ⟨_, ⟨a, h1, v, h2, d, h3, h4, (readReg_ok.mp h3).1, rfl⟩, rfl⟩

theorem test2_next {f : Byte → Byte → Byte × FlagUpd} {dst : Place} {src : Source} {s t : State} :
    test2 f dst src s = .next t ↔ ∃ a v d, s.dstAddr dst = .ok a ∧ s.srcVal src = .ok v ∧ s.readReg .dst a = .ok d ∧
      t = { s with flags := applyFlags s.chip.flagBits s.flags (f d v).2 }.retire := by
  simp only [test2, finish_next, bind_ok, pure, Except.pure, Except.ok.injEq]
  constructor
  · rintro ⟨u, ⟨a, h1, v, h2, d, h3, rfl⟩, rfl⟩; exact ⟨a, v, d, h1, h2, h3, rfl⟩
  · rintro ⟨a, v, d, h1, h2, h3, rfl⟩; exact ⟨_, ⟨a, h1, v, h2, d, h3, rfl⟩, rfl⟩

theorem alu1_next {f : Byte → Bool → Byte × FlagUpd} {dst : Place} {s t : State} :
    alu1 f dst s = .next t ↔ ∃ a d, s.dstAddr dst = .ok a ∧ s.readReg .dst a = .ok d ∧ a ≠ 0xFC ∧
      t = { s.store (s.loc a) (f d (s.flag .c)).1 with
        flags := applyFlags s.chip.flagBits s.flags (f d (s.flag .c)).2 }.retire := by
  simp only [alu1, finish_next, bind_ok, writeWithFlags_ok]
  constructor
  · rintro ⟨u, ⟨a, h1, d, h3, h4, h5, rfl⟩, rfl⟩; exact ⟨a, d, h1, h3, h4, rfl⟩
  · rintro ⟨a, d, h1, h3, h4, rfl⟩
    exact ⟨_, ⟨a, h1, d, h3, h4, (readReg_ok.mp h3).1, rfl⟩, rfl⟩

theorem decimalAdjust_next {dst : Place} {s t : State} :
    decimalAdjust dst s = .next t ↔ ∃ a d row, s.dstAddr dst = .ok a ∧ s.readReg .dst a = .ok d ∧
      daRow d (s.flag .c) (s.flag .h) (s.flag .d) = some row ∧ a ≠ 0xFC ∧
      t = { s.store (s.loc a) (daCore row d (Config.freeFlag s.time .v)).1 with
        flags := applyFlags s.chip.flagBits s.flags (daCore row d (Config.freeFlag s.time .v)).2 }.retire := by
  simp only [decimalAdjust, finish_next, bind_ok]
  constructor
  · rintro ⟨u, ⟨a, h1, d, h2, h3⟩, rfl⟩
    split at h3
    · cases h3
    · next row hrow =>
      obtain ⟨h4, _, rfl⟩ := writeWithFlags_ok.mp h3
      exact ⟨a, d, row, h1, h2, hrow, h4, rfl⟩
  · rintro ⟨a, d, row, h1, h2, h3, h4, rfl⟩
    refine ⟨_, ⟨a, h1, d, h2, ?_⟩, rfl⟩
    rw [h3]
    exact writeWithFlags_ok.mpr ⟨h4, (readReg_ok.mp h2).1, rfl⟩

theorem load_next {dst : Place} {src : Source} {s t : State} :
    load dst src s = .next t ↔ ∃ a v, s.dstAddr dst = .ok a ∧ s.srcVal src = .ok v ∧ s.absent a = false ∧
      t = (s.store (s.loc a) v).retire := by
  simp only [load, finish_next, bind_ok, writeReg_ok]
  constructor
  · rintro ⟨u, ⟨a, h1, v, h2, h3, rfl⟩, rfl⟩; exact ⟨a, v, h1, h2, h3, rfl⟩
  · rintro ⟨a, v, h1, h2, h3, rfl⟩; exact ⟨_, ⟨a, h1, v, h2, h3, rfl⟩, rfl⟩

theorem setFlags_next {u : FlagUpd} {s t : State} :
    setFlags u s = .next t ↔ t = { s with flags := applyFlags s.chip.flagBits s.flags u }.retire := by
  simp only [setFlags, finish_ok, Host.Outcome.next.injEq]; exact ⟨Eq.symm, Eq.symm⟩

theorem aluPair_next {f : Word → Word × FlagUpd} {p : Res Byte} {s t : State} :
    aluPair f p s = .next t ↔ ∃ a w, p = .ok a ∧ isOdd a = false ∧ a ≠ 0xFC ∧ s.readPair a = .ok w ∧
      ∃ s1 s2, s.writeReg a (hiByte (f w).1) = .ok s1 ∧ s1.writeReg (a + 1) (loByte (f w).1) = .ok s2 ∧
        t = { s2 with flags := applyFlags s2.chip.flagBits s2.flags (f w).2 }.retire := by
  simp only [aluPair, finish_next, bind_ok, evenPair_ok]
  constructor
  · rintro ⟨u, ⟨a, h1, a', ⟨h2, rfl⟩, h3⟩, rfl⟩
    by_cases hc : a' = flagsAddr
    · rw [if_pos hc] at h3; cases h3
    · rw [if_neg hc] at h3
      simp only [bind_ok, pure, Except.pure, Except.ok.injEq] at h3
      obtain ⟨w, h4, s1, h5, s2, h6, rfl⟩ := h3
      exact ⟨a', w, h1, h2, hc, h4, s1, s2, h5, h6, rfl⟩
  · rintro ⟨a, w, h1, h2, hc, h4, s1, s2, h5, h6, rfl⟩
    refine ⟨_, ⟨a, h1, a, ⟨h2, rfl⟩, ?_⟩, rfl⟩
    rw [if_neg (show ¬ a = flagsAddr from hc)]
    simp only [bind_ok, pure, Except.pure, Except.ok.injEq]
    exact ⟨w, h4, s1, h5, s2, h6, rfl⟩

theorem loadByte_next {read : State → Word → Res Byte} {n m : Nibble} {s t : State} :
    loadByte read n m s = .next t ↔ ∃ a v, s.readWrPair m = .ok a ∧ read s a = .ok v ∧ s.absent (s.wrAddr n) = false ∧
      t = (s.store (s.loc (s.wrAddr n)) v).retire := by
  simp only [loadByte, finish_next, bind_ok, State.writeWr, writeReg_ok]
  constructor
  · rintro ⟨u, ⟨a, h1, v, h2, h3, rfl⟩, rfl⟩; exact ⟨a, v, h1, h2, h3, rfl⟩
  · rintro ⟨a, v, h1, h2, h3, rfl⟩; exact ⟨_, ⟨a, h1, v, h2, h3, rfl⟩, rfl⟩

theorem storeByte_next {write : State → Word → Byte → Res State} {n m : Nibble} {s t : State} :
    storeByte write n m s = .next t ↔ ∃ a v u, s.readWrPair m = .ok a ∧ s.readWr .src n = .ok v ∧
      write s a v = .ok u ∧ t = u.retire := by
  simp only [storeByte, finish_next, bind_ok]
  constructor
  · rintro ⟨u, ⟨a, h1, v, h2, h3⟩, rfl⟩; exact ⟨a, v, u, h1, h2, h3, rfl⟩
  · rintro ⟨a, v, u, h1, h2, h3, rfl⟩; exact ⟨u, ⟨a, h1, v, h2, h3⟩, rfl⟩

theorem incPointers_ok {s t : State} {n m : Nibble} {ra : Byte} {a : Word} :
    s.incPointers n m ra a = .ok t ↔ ∃ s1 s2, s.writeWr n (ra + 1) = .ok s1 ∧ s1.writeWr m (hiByte (a + 1)) = .ok s2 ∧
      s2.writeWr (m + 1) (loByte (a + 1)) = .ok t := by
  simp only [State.incPointers, bind_ok]
  constructor
  · rintro ⟨s1, h1, s2, h2, h3⟩; exact ⟨s1, s2, h1, h2, h3⟩
  · rintro ⟨s1, s2, h1, h2, h3⟩; exact ⟨s1, h1, s2, h2, h3⟩

theorem readPointers_ok {s : State} {k : ReadSlot} {n m : Nibble} {r : Byte × Word} :
    s.readPointers k n m = .ok r ↔ s.pointerClash n m = false ∧ s.readWr k n = .ok r.1 ∧ s.readWrPair m = .ok r.2 := by
  obtain ⟨ra, a⟩ := r
  unfold State.readPointers
  by_cases ho : m.getLsbD 0 = true
  · simp [ho, readWrPair_ok]
  · by_cases hp : s.pointerClash n m = true
    · rw [if_neg ho, if_pos hp]; simp [hp]
    · simp only [if_neg ho, if_neg hp, bind_ok, pure, Except.pure, Except.ok.injEq, Prod.mk.injEq]
      constructor
      · rintro ⟨ra, h1, a, h2, rfl, rfl⟩; exact ⟨by simpa using hp, h1, h2⟩
      · rintro ⟨-, h1, h2⟩; exact ⟨ra, h1, a, h2, rfl, rfl⟩

/-- An odd pair is found first, then a clash, before any register is read (43_load.md R211, R213). -/
theorem readPointers_odd {s : State} {k : ReadSlot} {n m : Nibble} (ho : m.getLsbD 0 = true) :
    s.readPointers k n m = .error .oddRegisterPair := by
  rw [State.readPointers, if_pos ho]; rfl

theorem readPointers_clash {s : State} {k : ReadSlot} {n m : Nibble} (ho : m.getLsbD 0 = false)
    (hp : s.pointerClash n m = true) : s.readPointers k n m = .error .implicitExplicitClash := by
  rw [State.readPointers, if_neg (by simp only [ho]; decide), if_pos hp]; rfl

theorem loadByteInc_next {read : State → Word → Res Byte} {n m : Nibble} {s t : State} :
    loadByteInc read n m s = .next t ↔ ∃ a ra v s1 u, s.readWrPair m = .ok a ∧ s.pointerClash n m = false ∧
      s.readWr .dstPtr n = .ok ra ∧ s.dataClash n m ra = false ∧ read s a = .ok v ∧ s.writeReg ra v = .ok s1 ∧
      s1.incPointers n m ra a = .ok u ∧ t = u.retire := by
  simp only [loadByteInc, finish_next, bind_ok, readPointers_ok]
  constructor
  · rintro ⟨u, ⟨⟨ra, a⟩, ⟨hp, h3, h1⟩, h4⟩, rfl⟩
    by_cases hd : s.dataClash n m ra = true
    · simp [hd] at h4
    · simp only [if_neg hd, bind_ok] at h4
      obtain ⟨v, h5, s1, h6, h7⟩ := h4
      exact ⟨a, ra, v, s1, u, h1, hp, h3, by simpa using hd, h5, h6, h7, rfl⟩
  · rintro ⟨a, ra, v, s1, u, h1, hp, h3, hd, h5, h6, h7, rfl⟩
    refine ⟨u, ⟨(ra, a), ⟨hp, h3, h1⟩, ?_⟩, rfl⟩
    simp only [hd, Bool.false_eq_true, if_false, bind_ok]
    exact ⟨v, h5, s1, h6, h7⟩

theorem storeByteInc_next {write : State → Word → Byte → Res State} {n m : Nibble} {s t : State} :
    storeByteInc write n m s = .next t ↔ ∃ a ra v s1 u, s.readWrPair m = .ok a ∧ s.pointerClash n m = false ∧
      s.readWr .srcPtr n = .ok ra ∧ s.readReg .src ra = .ok v ∧ write s a v = .ok s1 ∧
      s1.incPointers n m ra a = .ok u ∧ t = u.retire := by
  simp only [storeByteInc, finish_next, bind_ok, readPointers_ok]
  constructor
  · rintro ⟨u, ⟨⟨ra, a⟩, ⟨hp, h3, h1⟩, v, h5, s1, h6, h7⟩, rfl⟩
    exact ⟨a, ra, v, s1, u, h1, hp, h3, h5, h6, h7, rfl⟩
  · rintro ⟨a, ra, v, s1, u, h1, hp, h3, h5, h6, h7, rfl⟩
    exact ⟨u, ⟨(ra, a), ⟨hp, h3, h1⟩, v, h5, s1, h6, h7⟩, rfl⟩

theorem isStackPointer_iff {a : Byte} : isStackPointer a = true ↔ a = 0xFE ∨ a = 0xFF := by
  simp [isStackPointer]

theorem pop_next {dst : Place} {s t : State} :
    pop dst s = .next t ↔ ∃ a v s1 u, s.dstAddr dst = .ok a ∧ isStackPointer a = false ∧ s.pop8 .stack0 = .ok (v, s1) ∧
      s1.writeReg a v = .ok u ∧ t = u.retire := by
  simp only [pop, finish_next, bind_ok]
  constructor
  · rintro ⟨u, ⟨a, h1, h2⟩, rfl⟩
    by_cases hp : isStackPointer a = true
    · simp [hp] at h2
    · simp only [if_neg hp, bind_ok] at h2
      obtain ⟨⟨v, s1⟩, h3, h4⟩ := h2
      exact ⟨a, v, s1, u, h1, by simpa using hp, h3, h4, rfl⟩
  · rintro ⟨a, v, s1, u, h1, hp, h3, h4, rfl⟩
    refine ⟨u, ⟨a, h1, ?_⟩, rfl⟩
    simp only [hp, Bool.false_eq_true, if_false, bind_ok]
    exact ⟨(v, s1), h3, h4⟩

theorem push_next {src : Place} {s t : State} :
    push src s = .next t ↔ ∃ a v u, s.placeAddr .srcPtr src = .ok a ∧ isStackPointer a = false ∧
      s.readReg .src a = .ok v ∧ s.push8 v = .ok u ∧ t = u.retire := by
  simp only [push, finish_next, bind_ok]
  constructor
  · rintro ⟨u, ⟨a, h1, h2⟩, rfl⟩
    by_cases hp : isStackPointer a = true
    · simp [hp] at h2
    · simp only [if_neg hp, bind_ok] at h2
      obtain ⟨v, h3, h4⟩ := h2
      exact ⟨a, v, u, h1, by simpa using hp, h3, h4, rfl⟩
  · rintro ⟨a, v, u, h1, hp, h3, h4, rfl⟩
    refine ⟨u, ⟨a, h1, ?_⟩, rfl⟩
    simp only [hp, Bool.false_eq_true, if_false, bind_ok]
    exact ⟨v, h3, h4⟩

theorem call_ok {s u : State} {t : Word} : s.call t = .ok u ↔ ∃ p, s.push16 s.pc = .ok p ∧ u = p.jump t := by
  simp only [State.call, bind_ok, pure, Except.pure, Except.ok.injEq]
  exact exists_congr fun p => and_congr_right fun _ => ⟨Eq.symm, Eq.symm⟩

/-! ## Interrupt entry and return -/

theorem irqReady_iff {s : State} {n : Nat} : s.irqReady n = true ↔
    n < s.chip.nIrq ∧ s.pending.getLsbD n = true ∧ s.imr.getLsbD 7 = true ∧ s.imr.getLsbD n = true := by
  simp [State.irqReady, State.irqEnabled, and_assoc]

theorem irqEligible_iff {s : State} {n : Nat} : s.irqEligible n = true ↔
    s.irqReady n = true ∧ ∀ m, s.irqReady m = true → s.chip.before m n = false := by
  simp only [State.irqEligible, Bool.and_eq_true, List.all_eq_true, List.mem_range, Bool.not_eq_true', Bool.and_eq_false_iff]
  refine and_congr_right fun _ => ⟨fun h m hm => ?_, fun h m _ => ?_⟩
  · exact (h m (irqReady_iff.mp hm).1).resolve_left (by simp [hm])
  · by_cases hm : s.irqReady m = true
    · exact .inr (h m hm)
    · exact .inl (by simpa using hm)

/-- P_IRQ_PRIORITY is a strict order: no source is before itself, and what is before is not after. -/
theorem before_irrefl (c : Chip) (n : Nat) : c.before n n = false := by simp [Chip.before]

theorem before_trans {c : Chip} {i m n : Nat} (h1 : c.before i m = true) (h2 : c.before m n = true) :
    c.before i n = true := by
  simp only [Chip.before, Bool.and_eq_true, decide_eq_true_eq] at *; exact ⟨h2.1, h1.2.trans h2.2⟩

/-- With no order given, every ready request may be taken (60_exceptions.md R287). -/
theorem irqEligible_of_open {s : State} (h : s.chip.irqPriority = []) (n : Nat) : s.irqEligible n = s.irqReady n := by
  rw [Bool.eq_iff_iff, irqEligible_iff]; simp [Chip.before, h]

theorem enterInterrupt_ok {s t : State} {n : Nat} :
    s.enterInterrupt n = .ok t ↔ ∃ s1 s2, { s with pending := setBit s.pending n false }.push16 s.pc = .ok s1 ∧
      s1.push8 s1.flags = .ok s2 ∧
      t = { s2 with imr := setBit s2.imr 7 false, pc := s2.progWord (s2.chip.vector n), runState := .run
                    prevNop := false, time := s2.time + 1 } := by
  simp only [State.enterInterrupt, bind_ok, pure, Except.pure, Except.ok.injEq]
  constructor
  · rintro ⟨s1, h1, s2, h2, h3⟩; exact ⟨s1, s2, h1, h2, h3.symm⟩
  · rintro ⟨s1, s2, h1, h2, h3⟩; exact ⟨s1, h1, s2, h2, h3.symm⟩

theorem leaveInterrupt_ok {s t : State} :
    s.leaveInterrupt = .ok t ↔ ∃ f s1 w s2, s.pop8 .stack0 = .ok (f, s1) ∧
      { s1 with flags := f }.pop16 .stack1 .stack2 = .ok (w, s2) ∧
      t = { s2 with pc := w, imr := setBit s2.imr 7 true } := by
  simp only [State.leaveInterrupt, bind_ok, pure, Except.pure, Except.ok.injEq]
  constructor
  · rintro ⟨⟨f, s1⟩, h1, ⟨w, s2⟩, h2, h3⟩; exact ⟨f, s1, w, s2, h1, h2, h3.symm⟩
  · rintro ⟨f, s1, w, s2, h1, h2, h3⟩; exact ⟨(f, s1), h1, (w, s2), h2, h3.symm⟩

end Sys2Proof.Machine
end

