-- ==== Sys2Proof/Laws/PerInstr.lean ====
section
/-! SUPPORT. The per-instruction family EncodedLength: every encoding has the length its first byte announces
(30_encoding.md R107). -/

namespace Sys2Proof.Laws.EncodedLength

/-- The encoding of the instruction has as many bytes as R107 reads off its first byte. -/
def Statement (i : Instr) : Prop := (encode i).length = opLength (opcodeByte i)

/-- For an instruction whose opcode byte holds no operand. -/
theorem of_opcode {i : Instr} {n : Nat} {b0 : Byte} (h : n = opLength b0)
    (hn : (encode i).length = n) (hb : opcodeByte i = b0) : Statement i := by
  unfold Statement; rw [hn, hb, h]

theorem add_r_r (dst : Nibble) (src : Nibble) : Statement (.add_r_r dst src) := of_opcode (by decide : 2 = opLength 0x02) rfl rfl

theorem add_r_Ir (dst : Nibble) (src : Nibble) : Statement (.add_r_Ir dst src) := of_opcode (by decide : 2 = opLength 0x03) rfl rfl

theorem add_R_R (dst : RegOp) (src : RegOp) : Statement (.add_R_R dst src) := of_opcode (by decide : 3 = opLength 0x04) rfl rfl

theorem add_R_IR (dst : RegOp) (src : RegOp) : Statement (.add_R_IR dst src) := of_opcode (by decide : 3 = opLength 0x05) rfl rfl

theorem add_R_IM (dst : RegOp) (src : Byte) : Statement (.add_R_IM dst src) := of_opcode (by decide : 3 = opLength 0x06) rfl rfl

theorem add_IR_IM (dst : RegOp) (src : Byte) : Statement (.add_IR_IM dst src) := of_opcode (by decide : 3 = opLength 0x07) rfl rfl

theorem adc_r_r (dst : Nibble) (src : Nibble) : Statement (.adc_r_r dst src) := of_opcode (by decide : 2 = opLength 0x12) rfl rfl

theorem adc_r_Ir (dst : Nibble) (src : Nibble) : Statement (.adc_r_Ir dst src) := of_opcode (by decide : 2 = opLength 0x13) rfl rfl

theorem adc_R_R (dst : RegOp) (src : RegOp) : Statement (.adc_R_R dst src) := of_opcode (by decide : 3 = opLength 0x14) rfl rfl

theorem adc_R_IR (dst : RegOp) (src : RegOp) : Statement (.adc_R_IR dst src) := of_opcode (by decide : 3 = opLength 0x15) rfl rfl

theorem adc_R_IM (dst : RegOp) (src : Byte) : Statement (.adc_R_IM dst src) := of_opcode (by decide : 3 = opLength 0x16) rfl rfl

theorem adc_IR_IM (dst : RegOp) (src : Byte) : Statement (.adc_IR_IM dst src) := of_opcode (by decide : 3 = opLength 0x17) rfl rfl

theorem sub_r_r (dst : Nibble) (src : Nibble) : Statement (.sub_r_r dst src) := of_opcode (by decide : 2 = opLength 0x22) rfl rfl

theorem sub_r_Ir (dst : Nibble) (src : Nibble) : Statement (.sub_r_Ir dst src) := of_opcode (by decide : 2 = opLength 0x23) rfl rfl

theorem sub_R_R (dst : RegOp) (src : RegOp) : Statement (.sub_R_R dst src) := of_opcode (by decide : 3 = opLength 0x24) rfl rfl

theorem sub_R_IR (dst : RegOp) (src : RegOp) : Statement (.sub_R_IR dst src) := of_opcode (by decide : 3 = opLength 0x25) rfl rfl

theorem sub_R_IM (dst : RegOp) (src : Byte) : Statement (.sub_R_IM dst src) := of_opcode (by decide : 3 = opLength 0x26) rfl rfl

theorem sub_IR_IM (dst : RegOp) (src : Byte) : Statement (.sub_IR_IM dst src) := of_opcode (by decide : 3 = opLength 0x27) rfl rfl

theorem sbc_r_r (dst : Nibble) (src : Nibble) : Statement (.sbc_r_r dst src) := of_opcode (by decide : 2 = opLength 0x32) rfl rfl

theorem sbc_r_Ir (dst : Nibble) (src : Nibble) : Statement (.sbc_r_Ir dst src) := of_opcode (by decide : 2 = opLength 0x33) rfl rfl

theorem sbc_R_R (dst : RegOp) (src : RegOp) : Statement (.sbc_R_R dst src) := of_opcode (by decide : 3 = opLength 0x34) rfl rfl

theorem sbc_R_IR (dst : RegOp) (src : RegOp) : Statement (.sbc_R_IR dst src) := of_opcode (by decide : 3 = opLength 0x35) rfl rfl

theorem sbc_R_IM (dst : RegOp) (src : Byte) : Statement (.sbc_R_IM dst src) := of_opcode (by decide : 3 = opLength 0x36) rfl rfl

theorem sbc_IR_IM (dst : RegOp) (src : Byte) : Statement (.sbc_IR_IM dst src) := of_opcode (by decide : 3 = opLength 0x37) rfl rfl

theorem or_r_r (dst : Nibble) (src : Nibble) : Statement (.or_r_r dst src) := of_opcode (by decide : 2 = opLength 0x42) rfl rfl

theorem or_r_Ir (dst : Nibble) (src : Nibble) : Statement (.or_r_Ir dst src) := of_opcode (by decide : 2 = opLength 0x43) rfl rfl

theorem or_R_R (dst : RegOp) (src : RegOp) : Statement (.or_R_R dst src) := of_opcode (by decide : 3 = opLength 0x44) rfl rfl

theorem or_R_IR (dst : RegOp) (src : RegOp) : Statement (.or_R_IR dst src) := of_opcode (by decide : 3 = opLength 0x45) rfl rfl

theorem or_R_IM (dst : RegOp) (src : Byte) : Statement (.or_R_IM dst src) := of_opcode (by decide : 3 = opLength 0x46) rfl rfl

theorem or_IR_IM (dst : RegOp) (src : Byte) : Statement (.or_IR_IM dst src) := of_opcode (by decide : 3 = opLength 0x47) rfl rfl

theorem and_r_r (dst : Nibble) (src : Nibble) : Statement (.and_r_r dst src) := of_opcode (by decide : 2 = opLength 0x52) rfl rfl

theorem and_r_Ir (dst : Nibble) (src : Nibble) : Statement (.and_r_Ir dst src) := of_opcode (by decide : 2 = opLength 0x53) rfl rfl

theorem and_R_R (dst : RegOp) (src : RegOp) : Statement (.and_R_R dst src) := of_opcode (by decide : 3 = opLength 0x54) rfl rfl

theorem and_R_IR (dst : RegOp) (src : RegOp) : Statement (.and_R_IR dst src) := of_opcode (by decide : 3 = opLength 0x55) rfl rfl

theorem and_R_IM (dst : RegOp) (src : Byte) : Statement (.and_R_IM dst src) := of_opcode (by decide : 3 = opLength 0x56) rfl rfl

theorem and_IR_IM (dst : RegOp) (src : Byte) : Statement (.and_IR_IM dst src) := of_opcode (by decide : 3 = opLength 0x57) rfl rfl

theorem tcm_r_r (dst : Nibble) (src : Nibble) : Statement (.tcm_r_r dst src) := of_opcode (by decide : 2 = opLength 0x62) rfl rfl

theorem tcm_r_Ir (dst : Nibble) (src : Nibble) : Statement (.tcm_r_Ir dst src) := of_opcode (by decide : 2 = opLength 0x63) rfl rfl

theorem tcm_R_R (dst : RegOp) (src : RegOp) : Statement (.tcm_R_R dst src) := of_opcode (by decide : 3 = opLength 0x64) rfl rfl

theorem tcm_R_IR (dst : RegOp) (src : RegOp) : Statement (.tcm_R_IR dst src) := of_opcode (by decide : 3 = opLength 0x65) rfl rfl

theorem tcm_R_IM (dst : RegOp) (src : Byte) : Statement (.tcm_R_IM dst src) := of_opcode (by decide : 3 = opLength 0x66) rfl rfl

theorem tcm_IR_IM (dst : RegOp) (src : Byte) : Statement (.tcm_IR_IM dst src) := of_opcode (by decide : 3 = opLength 0x67) rfl rfl

theorem tm_r_r (dst : Nibble) (src : Nibble) : Statement (.tm_r_r dst src) := of_opcode (by decide : 2 = opLength 0x72) rfl rfl

theorem tm_r_Ir (dst : Nibble) (src : Nibble) : Statement (.tm_r_Ir dst src) := of_opcode (by decide : 2 = opLength 0x73) rfl rfl

theorem tm_R_R (dst : RegOp) (src : RegOp) : Statement (.tm_R_R dst src) := of_opcode (by decide : 3 = opLength 0x74) rfl rfl

theorem tm_R_IR (dst : RegOp) (src : RegOp) : Statement (.tm_R_IR dst src) := of_opcode (by decide : 3 = opLength 0x75) rfl rfl

theorem tm_R_IM (dst : RegOp) (src : Byte) : Statement (.tm_R_IM dst src) := of_opcode (by decide : 3 = opLength 0x76) rfl rfl

theorem tm_IR_IM (dst : RegOp) (src : Byte) : Statement (.tm_IR_IM dst src) := of_opcode (by decide : 3 = opLength 0x77) rfl rfl

theorem cp_r_r (dst : Nibble) (src : Nibble) : Statement (.cp_r_r dst src) := of_opcode (by decide : 2 = opLength 0xA2) rfl rfl

theorem cp_r_Ir (dst : Nibble) (src : Nibble) : Statement (.cp_r_Ir dst src) := of_opcode (by decide : 2 = opLength 0xA3) rfl rfl

theorem cp_R_R (dst : RegOp) (src : RegOp) : Statement (.cp_R_R dst src) := of_opcode (by decide : 3 = opLength 0xA4) rfl rfl

theorem cp_R_IR (dst : RegOp) (src : RegOp) : Statement (.cp_R_IR dst src) := of_opcode (by decide : 3 = opLength 0xA5) rfl rfl

theorem cp_R_IM (dst : RegOp) (src : Byte) : Statement (.cp_R_IM dst src) := of_opcode (by decide : 3 = opLength 0xA6) rfl rfl

theorem cp_IR_IM (dst : RegOp) (src : Byte) : Statement (.cp_IR_IM dst src) := of_opcode (by decide : 3 = opLength 0xA7) rfl rfl

theorem xor_r_r (dst : Nibble) (src : Nibble) : Statement (.xor_r_r dst src) := of_opcode (by decide : 2 = opLength 0xB2) rfl rfl

theorem xor_r_Ir (dst : Nibble) (src : Nibble) : Statement (.xor_r_Ir dst src) := of_opcode (by decide : 2 = opLength 0xB3) rfl rfl

theorem xor_R_R (dst : RegOp) (src : RegOp) : Statement (.xor_R_R dst src) := of_opcode (by decide : 3 = opLength 0xB4) rfl rfl

theorem xor_R_IR (dst : RegOp) (src : RegOp) : Statement (.xor_R_IR dst src) := of_opcode (by decide : 3 = opLength 0xB5) rfl rfl

theorem xor_R_IM (dst : RegOp) (src : Byte) : Statement (.xor_R_IM dst src) := of_opcode (by decide : 3 = opLength 0xB6) rfl rfl

theorem xor_IR_IM (dst : RegOp) (src : Byte) : Statement (.xor_IR_IM dst src) := of_opcode (by decide : 3 = opLength 0xB7) rfl rfl

theorem dec_R (dst : RegOp) : Statement (.dec_R dst) := of_opcode (by decide : 2 = opLength 0x00) rfl rfl

theorem dec_IR (dst : RegOp) : Statement (.dec_IR dst) := of_opcode (by decide : 2 = opLength 0x01) rfl rfl

theorem rlc_R (dst : RegOp) : Statement (.rlc_R dst) := of_opcode (by decide : 2 = opLength 0x10) rfl rfl

theorem rlc_IR (dst : RegOp) : Statement (.rlc_IR dst) := of_opcode (by decide : 2 = opLength 0x11) rfl rfl

theorem inc_R (dst : RegOp) : Statement (.inc_R dst) := of_opcode (by decide : 2 = opLength 0x20) rfl rfl

theorem inc_IR (dst : RegOp) : Statement (.inc_IR dst) := of_opcode (by decide : 2 = opLength 0x21) rfl rfl

theorem da_R (dst : RegOp) : Statement (.da_R dst) := of_opcode (by decide : 2 = opLength 0x40) rfl rfl

theorem da_IR (dst : RegOp) : Statement (.da_IR dst) := of_opcode (by decide : 2 = opLength 0x41) rfl rfl

theorem pop_R (dst : RegOp) : Statement (.pop_R dst) := of_opcode (by decide : 2 = opLength 0x50) rfl rfl

theorem pop_IR (dst : RegOp) : Statement (.pop_IR dst) := of_opcode (by decide : 2 = opLength 0x51) rfl rfl

theorem com_R (dst : RegOp) : Statement (.com_R dst) := of_opcode (by decide : 2 = opLength 0x60) rfl rfl

theorem com_IR (dst : RegOp) : Statement (.com_IR dst) := of_opcode (by decide : 2 = opLength 0x61) rfl rfl

theorem push_R (src : RegOp) : Statement (.push_R src) := of_opcode (by decide : 2 = opLength 0x70) rfl rfl

theorem push_IR (src : RegOp) : Statement (.push_IR src) := of_opcode (by decide : 2 = opLength 0x71) rfl rfl

theorem decw_RR (dst : RegOp) : Statement (.decw_RR dst) := of_opcode (by decide : 2 = opLength 0x80) rfl rfl

theorem decw_IR (dst : RegOp) : Statement (.decw_IR dst) := of_opcode (by decide : 2 = opLength 0x81) rfl rfl

theorem rl_R (dst : RegOp) : Statement (.rl_R dst) := of_opcode (by decide : 2 = opLength 0x90) rfl rfl

theorem rl_IR (dst : RegOp) : Statement (.rl_IR dst) := of_opcode (by decide : 2 = opLength 0x91) rfl rfl

theorem incw_RR (dst : RegOp) : Statement (.incw_RR dst) := of_opcode (by decide : 2 = opLength 0xA0) rfl rfl

theorem incw_IR (dst : RegOp) : Statement (.incw_IR dst) := of_opcode (by decide : 2 = opLength 0xA1) rfl rfl

theorem clr_R (dst : RegOp) : Statement (.clr_R dst) := of_opcode (by decide : 2 = opLength 0xB0) rfl rfl

theorem clr_IR (dst : RegOp) : Statement (.clr_IR dst) := of_opcode (by decide : 2 = opLength 0xB1) rfl rfl

theorem rrc_R (dst : RegOp) : Statement (.rrc_R dst) := of_opcode (by decide : 2 = opLength 0xC0) rfl rfl

theorem rrc_IR (dst : RegOp) : Statement (.rrc_IR dst) := of_opcode (by decide : 2 = opLength 0xC1) rfl rfl

theorem sra_R (dst : RegOp) : Statement (.sra_R dst) := of_opcode (by decide : 2 = opLength 0xD0) rfl rfl

theorem sra_IR (dst : RegOp) : Statement (.sra_IR dst) := of_opcode (by decide : 2 = opLength 0xD1) rfl rfl

theorem rr_R (dst : RegOp) : Statement (.rr_R dst) := of_opcode (by decide : 2 = opLength 0xE0) rfl rfl

theorem rr_IR (dst : RegOp) : Statement (.rr_IR dst) := of_opcode (by decide : 2 = opLength 0xE1) rfl rfl

theorem swap_R (dst : RegOp) : Statement (.swap_R dst) := of_opcode (by decide : 2 = opLength 0xF0) rfl rfl

theorem swap_IR (dst : RegOp) : Statement (.swap_IR dst) := of_opcode (by decide : 2 = opLength 0xF1) rfl rfl

theorem jp_IRR (dst : RegOp) : Statement (.jp_IRR dst) := of_opcode (by decide : 2 = opLength 0x30) rfl rfl

theorem srp_IM (src : Byte) : Statement (.srp_IM src) := of_opcode (by decide : 2 = opLength 0x31) rfl rfl

theorem call_IRR (dst : RegOp) : Statement (.call_IRR dst) := of_opcode (by decide : 2 = opLength 0xD4) rfl rfl

theorem call_DA (dst : Word) : Statement (.call_DA dst) := of_opcode (by decide : 3 = opLength 0xD6) rfl rfl

theorem ldc_r_Irr (dst : Nibble) (src : Nibble) : Statement (.ldc_r_Irr dst src) := of_opcode (by decide : 2 = opLength 0xC2) rfl rfl

theorem ldc_Irr_r (dst : Nibble) (src : Nibble) : Statement (.ldc_Irr_r dst src) := of_opcode (by decide : 2 = opLength 0xD2) rfl rfl

theorem ldci_Ir_Irr (dst : Nibble) (src : Nibble) : Statement (.ldci_Ir_Irr dst src) := of_opcode (by decide : 2 = opLength 0xC3) rfl rfl

theorem ldci_Irr_Ir (dst : Nibble) (src : Nibble) : Statement (.ldci_Irr_Ir dst src) := of_opcode (by decide : 2 = opLength 0xD3) rfl rfl

theorem lde_r_Irr (dst : Nibble) (src : Nibble) : Statement (.lde_r_Irr dst src) := of_opcode (by decide : 2 = opLength 0x82) rfl rfl

theorem lde_Irr_r (dst : Nibble) (src : Nibble) : Statement (.lde_Irr_r dst src) := of_opcode (by decide : 2 = opLength 0x92) rfl rfl

theorem ldei_Ir_Irr (dst : Nibble) (src : Nibble) : Statement (.ldei_Ir_Irr dst src) := of_opcode (by decide : 2 = opLength 0x83) rfl rfl

theorem ldei_Irr_Ir (dst : Nibble) (src : Nibble) : Statement (.ldei_Irr_Ir dst src) := of_opcode (by decide : 2 = opLength 0x93) rfl rfl

theorem ld_r_Ir (dst : Nibble) (src : Nibble) : Statement (.ld_r_Ir dst src) := of_opcode (by decide : 2 = opLength 0xE3) rfl rfl

theorem ld_Ir_r (dst : Nibble) (src : Nibble) : Statement (.ld_Ir_r dst src) := of_opcode (by decide : 2 = opLength 0xF3) rfl rfl

theorem ld_R_R (dst : RegOp) (src : RegOp) : Statement (.ld_R_R dst src) := of_opcode (by decide : 3 = opLength 0xE4) rfl rfl

theorem ld_R_IR (dst : RegOp) (src : RegOp) : Statement (.ld_R_IR dst src) := of_opcode (by decide : 3 = opLength 0xE5) rfl rfl

theorem ld_R_IM (dst : RegOp) (src : Byte) : Statement (.ld_R_IM dst src) := of_opcode (by decide : 3 = opLength 0xE6) rfl rfl

theorem ld_IR_IM (dst : RegOp) (src : Byte) : Statement (.ld_IR_IM dst src) := of_opcode (by decide : 3 = opLength 0xE7) rfl rfl

theorem ld_IR_R (dst : RegOp) (src : RegOp) : Statement (.ld_IR_R dst src) := of_opcode (by decide : 3 = opLength 0xF5) rfl rfl

theorem ld_r_X (dst : Nibble) (index : Nibble) (offset : Byte) : Statement (.ld_r_X dst index offset) := of_opcode (by decide : 3 = opLength 0xC7) rfl rfl

theorem ld_X_r (index : Nibble) (offset : Byte) (src : Nibble) : Statement (.ld_X_r index offset src) := of_opcode (by decide : 3 = opLength 0xD7) rfl rfl

theorem ld_r_R (dst : Nibble) (src : RegOp) : Statement (.ld_r_R dst src) := (opLength_nibbles_8 dst).symm

theorem ld_R_r (dst : Byte) (src : Nibble) : Statement (.ld_R_r dst src) := (opLength_nibbles_9 src).symm

theorem djnz_r_RA (r : Nibble) (dst : Byte) : Statement (.djnz_r_RA r dst) := (opLength_nibbles_A r).symm

theorem jr_cc_RA (cc : Cond) (dst : Byte) : Statement (.jr_cc_RA cc dst) := (opLength_nibbles_B _).symm

theorem ld_r_IM (dst : Nibble) (src : Byte) : Statement (.ld_r_IM dst src) := (opLength_nibbles_C dst).symm

theorem jp_cc_DA (cc : Cond) (dst : Word) : Statement (.jp_cc_DA cc dst) := (opLength_nibbles_D _).symm

theorem inc_r (dst : Nibble) : Statement (.inc_r dst) := (opLength_nibbles_E dst).symm

theorem wdh : Statement .wdh := of_opcode (by decide : 1 = opLength 0x4F) rfl rfl

theorem wdt : Statement .wdt := of_opcode (by decide : 1 = opLength 0x5F) rfl rfl

theorem stop : Statement .stop := of_opcode (by decide : 1 = opLength 0x6F) rfl rfl

theorem halt : Statement .halt := of_opcode (by decide : 1 = opLength 0x7F) rfl rfl

theorem di : Statement .di := of_opcode (by decide : 1 = opLength 0x8F) rfl rfl

theorem ei : Statement .ei := of_opcode (by decide : 1 = opLength 0x9F) rfl rfl

theorem ret : Statement .ret := of_opcode (by decide : 1 = opLength 0xAF) rfl rfl

theorem iret : Statement .iret := of_opcode (by decide : 1 = opLength 0xBF) rfl rfl

theorem rcf : Statement .rcf := of_opcode (by decide : 1 = opLength 0xCF) rfl rfl

theorem scf : Statement .scf := of_opcode (by decide : 1 = opLength 0xDF) rfl rfl

theorem ccf : Statement .ccf := of_opcode (by decide : 1 = opLength 0xEF) rfl rfl

theorem nop : Statement .nop := of_opcode (by decide : 1 = opLength 0xFF) rfl rfl

end Sys2Proof.Laws.EncodedLength
end

