-- ==== Sys2Proof/Machine/Timing.lean ====
section
/-! DEFINITION. The cycle counts of spec/70_reset_and_hazards.md R330, transcribed. No rule of the spec and no other file of
the model depends on them: what one cycle is is not in the source (log 28). -/

namespace Sys2Proof

/-- The cycles of an instruction (70_reset_and_hazards.md R330): `external` says the stack is external, `taken` that the jump
is. PRESUMED where the source's table is lost (SBC, SRA, CALL, RET, IRET, DI, EI, HALT, NOP, RCF, SCF, SRP, STOP, WDH and
a taken DJNZ); PUSH IR as printed (90_conflicts.md C29); log 28. -/
def Instr.cycles (i : Instr) (external taken : Bool) : Nat :=
  match i with
  | .add_r_r _ _ => 6
  | .add_r_Ir _ _ => 6
  | .add_R_R _ _ => 10
  | .add_R_IR _ _ => 10
  | .add_R_IM _ _ => 10
  | .add_IR_IM _ _ => 10
  | .adc_r_r _ _ => 6
  | .adc_r_Ir _ _ => 6
  | .adc_R_R _ _ => 10
  | .adc_R_IR _ _ => 10
  | .adc_R_IM _ _ => 10
  | .adc_IR_IM _ _ => 10
  | .sub_r_r _ _ => 6
  | .sub_r_Ir _ _ => 6
  | .sub_R_R _ _ => 10
  | .sub_R_IR _ _ => 10
  | .sub_R_IM _ _ => 10
  | .sub_IR_IM _ _ => 10
  | .sbc_r_r _ _ => 6
  | .sbc_r_Ir _ _ => 6
  | .sbc_R_R _ _ => 10
  | .sbc_R_IR _ _ => 10
  | .sbc_R_IM _ _ => 10
  | .sbc_IR_IM _ _ => 10
  | .or_r_r _ _ => 6
  | .or_r_Ir _ _ => 6
  | .or_R_R _ _ => 10
  | .or_R_IR _ _ => 10
  | .or_R_IM _ _ => 10
  | .or_IR_IM _ _ => 10
  | .and_r_r _ _ => 6
  | .and_r_Ir _ _ => 6
  | .and_R_R _ _ => 10
  | .and_R_IR _ _ => 10
  | .and_R_IM _ _ => 10
  | .and_IR_IM _ _ => 10
  | .tcm_r_r _ _ => 6
  | .tcm_r_Ir _ _ => 6
  | .tcm_R_R _ _ => 10
  | .tcm_R_IR _ _ => 10
  | .tcm_R_IM _ _ => 10
  | .tcm_IR_IM _ _ => 10
  | .tm_r_r _ _ => 6
  | .tm_r_Ir _ _ => 6
  | .tm_R_R _ _ => 10
  | .tm_R_IR _ _ => 10
  | .tm_R_IM _ _ => 10
  | .tm_IR_IM _ _ => 10
  | .cp_r_r _ _ => 6
  | .cp_r_Ir _ _ => 6
  | .cp_R_R _ _ => 10
  | .cp_R_IR _ _ => 10
  | .cp_R_IM _ _ => 10
  | .cp_IR_IM _ _ => 10
  | .xor_r_r _ _ => 6
  | .xor_r_Ir _ _ => 6
  | .xor_R_R _ _ => 10
  | .xor_R_IR _ _ => 10
  | .xor_R_IM _ _ => 10
  | .xor_IR_IM _ _ => 10
  | .dec_R _ => 6
  | .dec_IR _ => 6
  | .rlc_R _ => 6
  | .rlc_IR _ => 6
  | .inc_R _ => 6
  | .inc_IR _ => 6
  | .da_R _ => 8
  | .da_IR _ => 8
  | .pop_R _ => 10
  | .pop_IR _ => 10
  | .com_R _ => 6
  | .com_IR _ => 6
  | .push_R _ => if external then 12 else 10
  | .push_IR _ => 10
  | .decw_RR _ => 10
  | .decw_IR _ => 10
  | .rl_R _ => 6
  | .rl_IR _ => 6
  | .incw_RR _ => 10
  | .incw_IR _ => 10
  | .clr_R _ => 6
  | .clr_IR _ => 6
  | .rrc_R _ => 6
  | .rrc_IR _ => 6
  | .sra_R _ => 6
  | .sra_IR _ => 6
  | .rr_R _ => 6
  | .rr_IR _ => 6
  | .swap_R _ => 6
  | .swap_IR _ => 6
  | .jp_IRR _ => 8
  | .srp_IM _ => 6
  | .call_IRR _ => 20
  | .call_DA _ => 20
  | .ldc_r_Irr _ _ => 12
  | .ldc_Irr_r _ _ => 12
  | .ldci_Ir_Irr _ _ => 18
  | .ldci_Irr_Ir _ _ => 18
  | .lde_r_Irr _ _ => 12
  | .lde_Irr_r _ _ => 12
  | .ldei_Ir_Irr _ _ => 18
  | .ldei_Irr_Ir _ _ => 18
  | .ld_r_Ir _ _ => 6
  | .ld_Ir_r _ _ => 6
  | .ld_R_R _ _ => 10
  | .ld_R_IR _ _ => 10
  | .ld_R_IM _ _ => 10
  | .ld_IR_IM _ _ => 10
  | .ld_IR_R _ _ => 10
  | .ld_r_X _ _ _ => 10
  | .ld_X_r _ _ _ => 10
  | .ld_r_R _ _ => 6
  | .ld_R_r _ _ => 6
  | .djnz_r_RA _ _ => if taken then 12 else 10
  | .jr_cc_RA _ _ => if taken then 12 else 10
  | .ld_r_IM _ _ => 6
  | .jp_cc_DA _ _ => if taken then 12 else 10
  | .inc_r _ => 6
  | .wdh => 6
  | .wdt => 6
  | .stop => 6
  | .halt => 6
  | .di => 6
  | .ei => 6
  | .ret => 14
  | .iret => 16
  | .rcf => 6
  | .scf => 6
  | .ccf => 6
  | .nop => 6

end Sys2Proof
end

