-- ==== Sys2Proof/Tests/Slice0.lean ====
section
/-! SUPPORT. Tests of the model: ill-formed terms refused, words written out from the spec's encodings decoded, the spec's
worked examples (95_test_vectors.md) executed one step each, and one witness for every obligation that has hypotheses. -/

namespace Sys2Proof.Tests

open Sys2Proof.Machine

/-! ## Well-formedness: each check refuses an ill-formed term (30_encoding.md R93, R110, R111) -/

theorem test_wf_accepts : WellFormed (.add_R_R (.reg 0xDF) (.reg 0xF0)) = true ∧ WellFormed (.decw_RR (.wr 14)) = true ∧
    WellFormed (.ldc_r_Irr 3 14) = true ∧ WellFormed (.ld_R_r 0xDF 0) = true := by decide

/-- A direct register byte E0H-EFH has no encoding: those bytes name working registers. -/
theorem test_wf_direct_escape : HasEncoding (.add_R_R (.reg 0xE0) (.reg 0x12)) = false ∧
    HasEncoding (.add_R_R (.reg 0x12) (.reg 0xEF)) = false ∧ HasEncoding (.com_IR (.reg 0xE3)) = false ∧
    HasEncoding (.ld_r_R 1 (.reg 0xE7)) = false ∧ HasEncoding (.ld_IR_IM (.reg 0xEA) 0) = false := by decide

theorem test_wf_odd_register : WellFormed (.decw_RR (.reg 0x31)) = false ∧ WellFormed (.incw_RR (.wr 3)) = false ∧
    WellFormed (.jp_IRR (.reg 0xFF)) = false ∧ WellFormed (.call_IRR (.wr 15)) = false := by decide

theorem test_wf_odd_number : WellFormed (.ldc_r_Irr 2 7) = false ∧ WellFormed (.ldc_Irr_r 7 2) = false ∧
    WellFormed (.ldci_Ir_Irr 2 1) = false ∧ WellFormed (.ldci_Irr_Ir 1 2) = false ∧ WellFormed (.lde_r_Irr 2 15) = false ∧
    WellFormed (.lde_Irr_r 15 2) = false ∧ WellFormed (.ldei_Ir_Irr 2 3) = false ∧
    WellFormed (.ldei_Irr_Ir 3 2) = false := by decide

theorem test_wf_r9_escape : WellFormed (.ld_R_r 0xE5 3) = false := by decide

/-! ## Decoding: every instruction from a word written out from the spec's encoding (30_encoding.md R91 to R106) -/

/-- The bytes decode to `i` with nothing left over, and `i` encodes to them. -/
def reads (bs : List Byte) (i : Instr) : Bool :=
  (match decode bs with
  | .ok (j, []) => j == i
  | _ => false) && encode i == bs

theorem test_decode_add : reads [0x02, 0x3B] (.add_r_r 3 11) = true ∧ reads [0x03, 0xFA] (.add_r_Ir 15 10) = true ∧
    reads [0x04, 0x12, 0x34] (.add_R_R (.reg 0x34) (.reg 0x12)) = true ∧
    reads [0x05, 0xE3, 0x4B] (.add_R_IR (.reg 0x4B) (.wr 3)) = true ∧
    reads [0x06, 0x6C, 0x03] (.add_R_IM (.reg 0x6C) 0x03) = true ∧
    reads [0x07, 0xD4, 0x02] (.add_IR_IM (.reg 0xD4) 0x02) = true := by decide

theorem test_decode_adc : reads [0x12, 0x3B] (.adc_r_r 3 11) = true ∧ reads [0x13, 0xFA] (.adc_r_Ir 15 10) = true ∧
    reads [0x14, 0x12, 0x34] (.adc_R_R (.reg 0x34) (.reg 0x12)) = true ∧
    reads [0x15, 0xE3, 0x4B] (.adc_R_IR (.reg 0x4B) (.wr 3)) = true ∧
    reads [0x16, 0x6C, 0x03] (.adc_R_IM (.reg 0x6C) 0x03) = true ∧
    reads [0x17, 0xD4, 0x02] (.adc_IR_IM (.reg 0xD4) 0x02) = true := by decide

theorem test_decode_sub : reads [0x22, 0x3B] (.sub_r_r 3 11) = true ∧ reads [0x23, 0xFA] (.sub_r_Ir 15 10) = true ∧
    reads [0x24, 0x12, 0x34] (.sub_R_R (.reg 0x34) (.reg 0x12)) = true ∧
    reads [0x25, 0xE3, 0x4B] (.sub_R_IR (.reg 0x4B) (.wr 3)) = true ∧
    reads [0x26, 0x6C, 0x03] (.sub_R_IM (.reg 0x6C) 0x03) = true ∧
    reads [0x27, 0xD4, 0x02] (.sub_IR_IM (.reg 0xD4) 0x02) = true := by decide

theorem test_decode_sbc : reads [0x32, 0x3B] (.sbc_r_r 3 11) = true ∧ reads [0x33, 0xFA] (.sbc_r_Ir 15 10) = true ∧
    reads [0x34, 0x12, 0x34] (.sbc_R_R (.reg 0x34) (.reg 0x12)) = true ∧
    reads [0x35, 0xE3, 0x4B] (.sbc_R_IR (.reg 0x4B) (.wr 3)) = true ∧
    reads [0x36, 0x6C, 0x03] (.sbc_R_IM (.reg 0x6C) 0x03) = true ∧
    reads [0x37, 0xD4, 0x02] (.sbc_IR_IM (.reg 0xD4) 0x02) = true := by decide

theorem test_decode_or : reads [0x42, 0x3B] (.or_r_r 3 11) = true ∧ reads [0x43, 0xFA] (.or_r_Ir 15 10) = true ∧
    reads [0x44, 0x12, 0x34] (.or_R_R (.reg 0x34) (.reg 0x12)) = true ∧
    reads [0x45, 0xE3, 0x4B] (.or_R_IR (.reg 0x4B) (.wr 3)) = true ∧
    reads [0x46, 0x6C, 0x03] (.or_R_IM (.reg 0x6C) 0x03) = true ∧
    reads [0x47, 0xD4, 0x02] (.or_IR_IM (.reg 0xD4) 0x02) = true := by decide

theorem test_decode_and : reads [0x52, 0x3B] (.and_r_r 3 11) = true ∧ reads [0x53, 0xFA] (.and_r_Ir 15 10) = true ∧
    reads [0x54, 0x12, 0x34] (.and_R_R (.reg 0x34) (.reg 0x12)) = true ∧
    reads [0x55, 0xE3, 0x4B] (.and_R_IR (.reg 0x4B) (.wr 3)) = true ∧
    reads [0x56, 0x6C, 0x03] (.and_R_IM (.reg 0x6C) 0x03) = true ∧
    reads [0x57, 0xD4, 0x02] (.and_IR_IM (.reg 0xD4) 0x02) = true := by decide

theorem test_decode_tcm : reads [0x62, 0x3B] (.tcm_r_r 3 11) = true ∧ reads [0x63, 0xFA] (.tcm_r_Ir 15 10) = true ∧
    reads [0x64, 0x12, 0x34] (.tcm_R_R (.reg 0x34) (.reg 0x12)) = true ∧
    reads [0x65, 0xE3, 0x4B] (.tcm_R_IR (.reg 0x4B) (.wr 3)) = true ∧
    reads [0x66, 0x6C, 0x03] (.tcm_R_IM (.reg 0x6C) 0x03) = true ∧
    reads [0x67, 0xD4, 0x02] (.tcm_IR_IM (.reg 0xD4) 0x02) = true := by decide

theorem test_decode_tm : reads [0x72, 0x3B] (.tm_r_r 3 11) = true ∧ reads [0x73, 0xFA] (.tm_r_Ir 15 10) = true ∧
    reads [0x74, 0x12, 0x34] (.tm_R_R (.reg 0x34) (.reg 0x12)) = true ∧
    reads [0x75, 0xE3, 0x4B] (.tm_R_IR (.reg 0x4B) (.wr 3)) = true ∧
    reads [0x76, 0x6C, 0x03] (.tm_R_IM (.reg 0x6C) 0x03) = true ∧
    reads [0x77, 0xD4, 0x02] (.tm_IR_IM (.reg 0xD4) 0x02) = true := by decide

theorem test_decode_cp : reads [0xA2, 0x3B] (.cp_r_r 3 11) = true ∧ reads [0xA3, 0xFA] (.cp_r_Ir 15 10) = true ∧
    reads [0xA4, 0x12, 0x34] (.cp_R_R (.reg 0x34) (.reg 0x12)) = true ∧
    reads [0xA5, 0xE3, 0x4B] (.cp_R_IR (.reg 0x4B) (.wr 3)) = true ∧
    reads [0xA6, 0x6C, 0x03] (.cp_R_IM (.reg 0x6C) 0x03) = true ∧
    reads [0xA7, 0xD4, 0x02] (.cp_IR_IM (.reg 0xD4) 0x02) = true := by decide

theorem test_decode_xor : reads [0xB2, 0x3B] (.xor_r_r 3 11) = true ∧ reads [0xB3, 0xFA] (.xor_r_Ir 15 10) = true ∧
    reads [0xB4, 0x12, 0x34] (.xor_R_R (.reg 0x34) (.reg 0x12)) = true ∧
    reads [0xB5, 0xE3, 0x4B] (.xor_R_IR (.reg 0x4B) (.wr 3)) = true ∧
    reads [0xB6, 0x6C, 0x03] (.xor_R_IM (.reg 0x6C) 0x03) = true ∧
    reads [0xB7, 0xD4, 0x02] (.xor_IR_IM (.reg 0xD4) 0x02) = true := by decide

theorem test_decode_dec : reads [0x00, 0xEA] (.dec_R (.wr 10)) = true ∧
    reads [0x01, 0xB3] (.dec_IR (.reg 0xB3)) = true := by decide

theorem test_decode_rlc : reads [0x10, 0xEA] (.rlc_R (.wr 10)) = true ∧
    reads [0x11, 0xB3] (.rlc_IR (.reg 0xB3)) = true := by decide

theorem test_decode_da : reads [0x40, 0xEA] (.da_R (.wr 10)) = true ∧
    reads [0x41, 0xB3] (.da_IR (.reg 0xB3)) = true := by decide

theorem test_decode_pop : reads [0x50, 0xEA] (.pop_R (.wr 10)) = true ∧
    reads [0x51, 0xB3] (.pop_IR (.reg 0xB3)) = true := by decide

theorem test_decode_com : reads [0x60, 0xEA] (.com_R (.wr 10)) = true ∧
    reads [0x61, 0xB3] (.com_IR (.reg 0xB3)) = true := by decide

theorem test_decode_push : reads [0x70, 0xEA] (.push_R (.wr 10)) = true ∧
    reads [0x71, 0xB3] (.push_IR (.reg 0xB3)) = true := by decide

theorem test_decode_decw : reads [0x80, 0xEA] (.decw_RR (.wr 10)) = true ∧
    reads [0x81, 0xB3] (.decw_IR (.reg 0xB3)) = true := by decide

theorem test_decode_rl : reads [0x90, 0xEA] (.rl_R (.wr 10)) = true ∧
    reads [0x91, 0xB3] (.rl_IR (.reg 0xB3)) = true := by decide

theorem test_decode_incw : reads [0xA0, 0xEA] (.incw_RR (.wr 10)) = true ∧
    reads [0xA1, 0xB3] (.incw_IR (.reg 0xB3)) = true := by decide

theorem test_decode_clr : reads [0xB0, 0xEA] (.clr_R (.wr 10)) = true ∧
    reads [0xB1, 0xB3] (.clr_IR (.reg 0xB3)) = true := by decide

theorem test_decode_rrc : reads [0xC0, 0xEA] (.rrc_R (.wr 10)) = true ∧
    reads [0xC1, 0xB3] (.rrc_IR (.reg 0xB3)) = true := by decide

theorem test_decode_sra : reads [0xD0, 0xEA] (.sra_R (.wr 10)) = true ∧
    reads [0xD1, 0xB3] (.sra_IR (.reg 0xB3)) = true := by decide

theorem test_decode_rr : reads [0xE0, 0xEA] (.rr_R (.wr 10)) = true ∧
    reads [0xE1, 0xB3] (.rr_IR (.reg 0xB3)) = true := by decide

theorem test_decode_swap : reads [0xF0, 0xEA] (.swap_R (.wr 10)) = true ∧
    reads [0xF1, 0xB3] (.swap_IR (.reg 0xB3)) = true := by decide

theorem test_decode_inc : reads [0x20, 0xB3] (.inc_R (.reg 0xB3)) = true ∧
    reads [0x21, 0xE5] (.inc_IR (.wr 5)) = true ∧ reads [0xAE] (.inc_r 10) = true := by decide

theorem test_decode_ld : reads [0xFC, 0x34] (.ld_r_IM 15 0x34) = true ∧
    reads [0xF8, 0x34] (.ld_r_R 15 (.reg 0x34)) = true ∧ reads [0xE9, 0x34] (.ld_R_r 0x34 14) = true ∧
    reads [0xE3, 0xDC] (.ld_r_Ir 13 12) = true ∧ reads [0xF3, 0xDC] (.ld_Ir_r 13 12) = true ∧
    reads [0xE4, 0x45, 0x34] (.ld_R_R (.reg 0x34) (.reg 0x45)) = true ∧
    reads [0xE5, 0x45, 0x34] (.ld_R_IR (.reg 0x34) (.reg 0x45)) = true ∧
    reads [0xE6, 0x34, 0xA4] (.ld_R_IM (.reg 0x34) 0xA4) = true ∧
    reads [0xE7, 0xEE, 0xFC] (.ld_IR_IM (.wr 14) 0xFC) = true ∧
    reads [0xF5, 0x45, 0x34] (.ld_IR_R (.reg 0x34) (.reg 0x45)) = true ∧
    reads [0xC7, 0xA0, 0x24] (.ld_r_X 10 0 0x24) = true ∧
    reads [0xD7, 0xA0, 0xF0] (.ld_X_r 0 0xF0 10) = true := by decide

theorem test_decode_ldc_lde : reads [0xC2, 0x26] (.ldc_r_Irr 2 6) = true ∧
    reads [0xD2, 0x26] (.ldc_Irr_r 6 2) = true ∧ reads [0xC3, 0x26] (.ldci_Ir_Irr 2 6) = true ∧
    reads [0xD3, 0x26] (.ldci_Irr_Ir 6 2) = true ∧ reads [0x82, 0x26] (.lde_r_Irr 2 6) = true ∧
    reads [0x92, 0x26] (.lde_Irr_r 6 2) = true ∧ reads [0x83, 0x26] (.ldei_Ir_Irr 2 6) = true ∧
    reads [0x93, 0x26] (.ldei_Irr_Ir 6 2) = true := by decide

theorem test_decode_control_transfer : reads [0x30, 0xE2] (.jp_IRR (.wr 2)) = true ∧
    reads [0x7D, 0x15, 0x20] (.jp_cc_DA .c 0x1520) = true ∧ reads [0x5B, 0x09] (.jr_cc_RA .mi 0x09) = true ∧
    reads [0x8B, 0xD3] (.jr_cc_RA .always 0xD3) = true ∧ reads [0xD6, 0x35, 0x21] (.call_DA 0x3521) = true ∧
    reads [0xD4, 0xA4] (.call_IRR (.reg 0xA4)) = true ∧ reads [0x6A, 0xFE] (.djnz_r_RA 6 0xFE) = true ∧
    reads [0xAF] (.ret) = true ∧ reads [0xBF] (.iret) = true := by decide

theorem test_decode_cpu_control : reads [0x31, 0xF0] (.srp_IM 0xF0) = true ∧ reads [0x4F] (.wdh) = true ∧
    reads [0x5F] (.wdt) = true ∧ reads [0x6F] (.stop) = true ∧ reads [0x7F] (.halt) = true ∧
    reads [0x8F] (.di) = true ∧ reads [0x9F] (.ei) = true ∧ reads [0xCF] (.rcf) = true ∧ reads [0xDF] (.scf) = true ∧
    reads [0xEF] (.ccf) = true ∧ reads [0xFF] (.nop) = true := by decide

/-- A truncated instruction and an unassigned opcode are rejected (30_encoding.md R107, R109). -/
theorem test_decode_rejects : (decode [] matches .error _) = true ∧ (decode [0x14, 0x12] matches .error _) = true ∧
    (decode [0xC4, 0x00, 0x00] matches .error _) = true ∧ (decode [0xF7, 0x00, 0x00] matches .error _) = true := by decide

/-! ## The spec's worked examples, one step each (95_test_vectors.md; the row's name stands above each test) -/

/-- A state with some registers set, one by one. -/
def withRegs (l : List (Byte × Byte)) (s : State) : State := l.foldl (fun s p => s.store (s.loc p.1) p.2) s

/-- RP = 90H, PC = 0100H, the flags as given, the instruction at the PC and the registers named. -/
def start (bs : List Byte) (flags : Byte) (regs : List (Byte × Byte)) : State :=
  withRegs regs { State.reset with
    rp := 0x90, flags := flags, pc := 0x0100
    prog := memOfCells (bs.zipIdx.map fun p => (0x0100 + p.2, p.1)) }

/-- The step goes on with this PC, these flags under the mask and these registers. -/
def ends (s : State) (pc : Word) (mask flags : Byte) (regs : List (Byte × Byte)) : Bool :=
  match step s with
  | .next t => t.pc == pc && t.flags &&& mask == flags && regs.all fun p => t.valueAt .src (t.loc p.1) == p.2
  | _ => false

/-- The same without the flags, for instructions that leave one of them free. -/
def holds (s : State) (pc : Word) (regs : List (Byte × Byte)) : Bool :=
  match step s with
  | .next t => t.pc == pc && regs.all fun p => t.valueAt .src (t.loc p.1) == p.2
  | _ => false

/-- The step ends in this model fault. -/
def faults (s : State) (f : Fault) : Bool :=
  match step s with
  | .fault g => g == f
  | _ => false

/-- S-ADC-3, D-ADC-2 -/
theorem test_adc :
    ends (start [0x14, 0x12, 0x34] 0x80 [(0x34, 0x2E), (0x12, 0x1B)]) 0x0103 0xFC 0x04 [(0x34, 0x4A)] = true ∧
    ends (start [0x16, 0x40, 0x00] 0x80 [(0x40, 0x7F)]) 0x0103 0xFC 0x34 [(0x40, 0x80)] = true := by decide

/-- S-ADD-4, D-ADD-1 -/
theorem test_add :
    ends (start [0x05, 0xE3, 0x4B] 0x00 [(0x4B, 0x82), (0x93, 0x10), (0x10, 0x01)])
      0x0103 0xFC 0x20 [(0x4B, 0x83)] = true ∧
    ends (start [0x04, 0x41, 0x40] 0x00 [(0x40, 0x80), (0x41, 0x80)])
      0x0103 0xFC 0xD0 [(0x40, 0x00), (0x41, 0x80)] = true := by decide

/-- S-AND-3, D-AND-1 -/
theorem test_and :
    ends (start [0x54, 0x42, 0x3A] 0x00 [(0x3A, 0xF5), (0x42, 0x0A)]) 0x0103 0xFC 0x40 [(0x3A, 0x00)] = true ∧
    ends (start [0x56, 0x40, 0x0F] 0x9C [(0x40, 0xF0)]) 0x0103 0xFC 0xCC [(0x40, 0x00)] = true := by decide

/-- D-CALL-2, D-CALL-3 -/
theorem test_call :
    ends (start [0xD4, 0xE4] 0x00 [(0x94, 0x12), (0x95, 0x35), (0xFF, 0x80)])
      0x1235 0xFC 0x00 [(0x7E, 0x01), (0x7F, 0x02), (0xFF, 0x7E)] = true ∧
    ends (start [0xD6, 0x01, 0x00] 0x00 [(0xFF, 0x80)])
      0x0100 0xFC 0x00 [(0x7E, 0x01), (0x7F, 0x03), (0xFF, 0x7E)] = true := by decide

/-- S-CCF-1, D-CCF-1 -/
theorem test_ccf :
    ends (start [0xEF] 0x00 []) 0x0101 0xFC 0x80 [] = true ∧
    ends (start [0xEF] 0xC0 []) 0x0101 0xFC 0x40 [] = true := by decide

/-- S-CLR-2, D-CLR-1 -/
theorem test_clr :
    ends (start [0xB1, 0xA5] 0x00 [(0xA5, 0x23), (0x23, 0xFC)])
      0x0102 0xFC 0x00 [(0x23, 0x00), (0xA5, 0x23)] = true ∧
    ends (start [0xB0, 0xFC] 0xFC []) 0x0102 0xFC 0x00 [(0xFC, 0x00)] = true := by decide

/-- S-COM-1, S-COM-2 -/
theorem test_com :
    ends (start [0x60, 0x08] 0x00 [(0x08, 0x24)]) 0x0102 0xFC 0x20 [(0x08, 0xDB)] = true ∧
    ends (start [0x61, 0x08] 0x00 [(0x08, 0x24), (0x24, 0xFF)]) 0x0102 0xFC 0x40 [(0x24, 0x00)] = true := by decide

/-- D-CP-1, D-CP-2 -/
theorem test_cp :
    ends (start [0xA6, 0x40, 0x80] 0x0C [(0x40, 0x7F)]) 0x0103 0xFC 0xBC [(0x40, 0x7F)] = true ∧
    ends (start [0xA6, 0xFC, 0xA0] 0xA0 []) 0x0103 0xFC 0x40 [] = true := by decide

/-- D-DA-2, D-DA-4 -/
theorem test_da :
    holds (start [0x40, 0x40] 0x8C [(0x40, 0xFF)]) 0x0102 [(0x40, 0x99)] = true ∧
    holds (start [0x40, 0x40] 0x0C [(0x40, 0x2D)]) 0x0102 [(0x40, 0x27)] = true := by decide

/-- S-DEC-2, D-DEC-2 -/
theorem test_dec :
    ends (start [0x01, 0xB3] 0x00 [(0xB3, 0xCB), (0xCB, 0x01)]) 0x0102 0xFC 0x40 [(0xCB, 0x00)] = true ∧
    ends (start [0x00, 0x40] 0x00 [(0x40, 0x80)]) 0x0102 0xFC 0x10 [(0x40, 0x7F)] = true := by decide

/-- D-DECW-4, D-DECW-5 -/
theorem test_decw :
    ends (start [0x80, 0x40] 0x00 [(0x40, 0x80), (0x41, 0x00)])
      0x0102 0xFC 0x10 [(0x40, 0x7F), (0x41, 0xFF)] = true ∧
    ends (start [0x80, 0xE4] 0x00 [(0x94, 0x12), (0x95, 0x00)])
      0x0102 0xFC 0x00 [(0x94, 0x11), (0x95, 0xFF)] = true := by decide

/-- D-DI-1, S-DI-1 -/
theorem test_di :
    ends (start [0x8F] 0x00 [(0xFB, 0x7F)]) 0x0101 0xFC 0x00 [(0xFB, 0x7F)] = true ∧
    ends (start [0x8F] 0x00 [(0xFB, 0x8A)]) 0x0101 0xFC 0x00 [(0xFB, 0x0A)] = true := by decide

/-- S-EI-1, D-EI-1 -/
theorem test_ei :
    ends (start [0x9F] 0x00 [(0xFB, 0x0A)]) 0x0101 0xFC 0x00 [(0xFB, 0x8A)] = true ∧
    ends (start [0x9F] 0x00 [(0xFB, 0x00)]) 0x0101 0xFC 0x00 [(0xFB, 0x80)] = true := by decide

/-- D-DJNZ-1, D-DJNZ-4 -/
theorem test_djnz :
    ends (start [0x6A, 0xFE] 0x40 [(0x96, 0x00)]) 0x0100 0xFC 0x40 [(0x96, 0xFF)] = true ∧
    ends (start [0x6A, 0x80] 0x00 [(0x96, 0x02)]) 0x0082 0xFC 0x00 [(0x96, 0x01)] = true := by decide

/-- D-INC-1, S-INC-3 -/
theorem test_inc :
    ends (start [0xFE] 0x80 [(0x9F, 0xFF)]) 0x0101 0xFC 0xC0 [(0x9F, 0x00)] = true ∧
    ends (start [0x21, 0xB3] 0x00 [(0xB3, 0xCB), (0xCB, 0xFF)]) 0x0102 0xFC 0x40 [(0xCB, 0x00)] = true := by decide

/-- D-INCW-3, S-INCW-2 -/
theorem test_incw :
    ends (start [0xA0, 0x40] 0x00 [(0x40, 0x7F), (0x41, 0xFF)])
      0x0102 0xFC 0x30 [(0x40, 0x80), (0x41, 0x00)] = true ∧
    ends (start [0xA1, 0xE0] 0x00 [(0x90, 0x30), (0x30, 0xFA), (0x31, 0xF3)])
      0x0102 0xFC 0x20 [(0x30, 0xFA), (0x31, 0xF4)] = true := by decide

/-- S-IRET-1 -/
theorem test_iret :
    ends (start [0xBF] 0xC0 [(0xFF, 0x45), (0x45, 0x00), (0x46, 0x6F), (0x47, 0xE4), (0xFB, 0x0A)])
      0x6FE4 0xFC 0x00 [(0xFC, 0x00), (0xFB, 0x8A), (0xFF, 0x48)] = true := by decide

/-- S-JP-1a, D-JP-3 -/
theorem test_jp :
    ends (start [0x7D, 0x15, 0x20] 0x80 []) 0x1520 0xFC 0x80 [] = true ∧
    ends (start [0x30, 0xFE] 0x00 [(0xFE, 0x12), (0xFF, 0x34)]) 0x1234 0xFC 0x00 [(0xFF, 0x34)] = true := by decide

/-- S-JR-2, D-JR-2 -/
theorem test_jr :
    ends (start [0x8B, 0xD3] 0x00 []) 0x00D5 0xFC 0x00 [] = true ∧
    ends (start [0x0B, 0x10] 0xF0 []) 0x0102 0xFC 0xF0 [] = true := by decide

/-- S-LD-3, S-LD-7 -/
theorem test_ld :
    ends (start [0xE9, 0x34] 0x00 [(0x9E, 0x45)]) 0x0102 0xFC 0x00 [(0x34, 0x45), (0x9E, 0x45)] = true ∧
    ends (start [0xE5, 0x45, 0x34] 0x00 [(0x45, 0xCF), (0xCF, 0xFF)]) 0x0103 0xFC 0x00 [(0x34, 0xFF)] = true := by decide

/-- S-LD-12, D-LD-2 -/
theorem test_ld_2 :
    ends (start [0xD7, 0xA0, 0xF0] 0x00 [(0x90, 0x0B), (0x9A, 0x83)]) 0x0103 0xFC 0x00 [(0xFB, 0x83)] = true ∧
    ends (start [0xC7, 0xA0, 0xF0] 0x00 [(0x90, 0x20), (0x10, 0x5C)]) 0x0103 0xFC 0x00 [(0x9A, 0x5C)] = true := by decide

/-- D-LD-1, D-LD-4 -/
theorem test_ld_3 :
    ends (start [0x38, 0xE5] 0x00 [(0x95, 0x77)]) 0x0102 0xFC 0x00 [(0x93, 0x77)] = true ∧
    ends (start [0xE9, 0xFD] 0x00 [(0x9E, 0x20)]) 0x0102 0xFC 0x00 [(0xFD, 0x20)] = true := by decide

/-- D-NOP-1 -/
theorem test_nop :
    ends (start [0xFF] 0xFC []) 0x0101 0xFC 0xFC [] = true := by decide

/-- S-OR-1b, S-OR-6 -/
theorem test_or :
    ends (start [0x42, 0x1E] 0x00 [(0x91, 0x38), (0x9E, 0x8D)]) 0x0102 0xFC 0x20 [(0x91, 0xBD)] = true ∧
    ends (start [0x47, 0xE3, 0x05] 0x00 [(0x93, 0x3E), (0x3E, 0x0C)]) 0x0103 0xFC 0x00 [(0x3E, 0x0D)] = true := by decide

/-- D-POP-1, D-POP-3 -/
theorem test_pop :
    ends (start [0x50, 0xFC] 0x00 [(0xFF, 0x7F), (0x7F, 0xA4)])
      0x0102 0xFC 0xA4 [(0xFC, 0xA4), (0xFF, 0x80)] = true ∧
    ends (start [0x50, 0x40] 0x00 [(0xFE, 0x5A), (0xFF, 0xFF)])
      0x0102 0xFC 0x00 [(0xFE, 0x5A), (0x40, 0xFF), (0xFF, 0x00)] = true := by decide

/-- S-PUSH-2, D-PUSH-1 -/
theorem test_push :
    ends (start [0x71, 0xE4] 0x50 [(0xFF, 0x61), (0x94, 0xFC)])
      0x0102 0xFC 0x50 [(0x60, 0x50), (0xFF, 0x60)] = true ∧
    ends (start [0x70, 0x40] 0x00 [(0x40, 0x66), (0xFF, 0x00)])
      0x0102 0xFC 0x00 [(0xFF, 0x66), (0xFF, 0x66)] = true := by decide

/-- S-RCF-1 -/
theorem test_rcf :
    ends (start [0xCF] 0x80 []) 0x0101 0xFC 0x00 [] = true := by decide

/-- D-RET-1 -/
theorem test_ret :
    ends (start [0xAF] 0x00 [(0xFF, 0x7E), (0x7E, 0x02), (0x7F, 0x10)]) 0x0210 0xFC 0x00 [(0xFF, 0x80)] = true := by decide

/-- S-RL-1, S-RL-2 -/
theorem test_rl :
    ends (start [0x90, 0xC6] 0x00 [(0xC6, 0x88)]) 0x0102 0xFC 0x90 [(0xC6, 0x11)] = true ∧
    ends (start [0x91, 0xC6] 0x00 [(0xC6, 0x88), (0x88, 0x44)]) 0x0102 0xFC 0x30 [(0x88, 0x88)] = true := by decide

/-- D-RLC-1, D-RLC-2 -/
theorem test_rlc :
    ends (start [0x10, 0x40] 0x00 [(0x40, 0x80)]) 0x0102 0xFC 0xD0 [(0x40, 0x00)] = true ∧
    ends (start [0x10, 0x40] 0x80 [(0x40, 0x00)]) 0x0102 0xFC 0x00 [(0x40, 0x01)] = true := by decide

/-- D-RR-1, S-RR-2 -/
theorem test_rr :
    ends (start [0xE0, 0x40] 0x00 [(0x40, 0x01)]) 0x0102 0xFC 0xB0 [(0x40, 0x80)] = true ∧
    ends (start [0xE1, 0xC6] 0x00 [(0xC6, 0x31), (0x31, 0x7E)]) 0x0102 0xFC 0x00 [(0x31, 0x3F)] = true := by decide

/-- D-RRC-2, S-RRC-2b -/
theorem test_rrc :
    ends (start [0xC0, 0x40] 0x80 [(0x40, 0x00)]) 0x0102 0xFC 0x30 [(0x40, 0x80)] = true ∧
    ends (start [0xC1, 0x2C] 0x00 [(0x2C, 0xED), (0xED, 0x04)]) 0x0102 0xFC 0x00 [(0xED, 0x02)] = true := by decide

/-- S-SBC-6, D-SBC-2 -/
theorem test_sbc :
    ends (start [0x37, 0xD4, 0x02] 0x80 [(0xD4, 0x5F), (0x5F, 0x4C)]) 0x0103 0xFC 0x08 [(0x5F, 0x49)] = true ∧
    ends (start [0x36, 0x40, 0x00] 0x80 [(0x40, 0x80)]) 0x0103 0xFC 0x1C [(0x40, 0x7F)] = true := by decide

/-- S-SCF-1 -/
theorem test_scf :
    ends (start [0xDF] 0x00 []) 0x0101 0xFC 0x80 [] = true := by decide

/-- D-SRA-1, S-SRA-2 -/
theorem test_sra :
    ends (start [0xD0, 0x40] 0x10 [(0x40, 0xFF)]) 0x0102 0xFC 0xA0 [(0x40, 0xFF)] = true ∧
    ends (start [0xD1, 0xC6] 0x00 [(0xC6, 0xDF), (0xDF, 0xB8)]) 0x0102 0xFC 0x20 [(0xDF, 0xDC)] = true := by decide

/-- D-SRP-1 -/
theorem test_srp :
    ends (start [0x31, 0xA5] 0x00 []) 0x0102 0xFC 0x00 [(0xFD, 0xA5)] = true := by decide

/-- S-SUB-4, D-SUB-2 -/
theorem test_sub :
    ends (start [0x25, 0xE3, 0x4B] 0x00 [(0x4B, 0x82), (0x93, 0x10), (0x10, 0x01)])
      0x0103 0xFC 0x28 [(0x4B, 0x81)] = true ∧
    ends (start [0x26, 0x40, 0x01] 0x00 [(0x40, 0x80)]) 0x0103 0xFC 0x1C [(0x40, 0x7F)] = true := by decide

/-- S-SWAP-1, S-SWAP-2 -/
theorem test_swap :
    holds (start [0xF0, 0xB3] 0x00 [(0xB3, 0xB3)]) 0x0102 [(0xB3, 0x3B)] = true ∧
    holds (start [0xF1, 0xE5] 0x00 [(0x95, 0xBC), (0xBC, 0xB3)]) 0x0102 [(0xBC, 0x3B)] = true := by decide

/-- D-TCM-2, S-TCM-4 -/
theorem test_tcm :
    ends (start [0x66, 0x40, 0x80] 0x00 [(0x40, 0x7F)]) 0x0103 0xFC 0x20 [(0x40, 0x7F)] = true ∧
    ends (start [0x65, 0x07, 0xDF] 0x00 [(0xDF, 0xFF), (0x07, 0x1F), (0x1F, 0xBD)])
      0x0103 0xFC 0x40 [(0xDF, 0xFF)] = true := by decide

/-- S-TM-2, D-TM-1 -/
theorem test_tm :
    ends (start [0x73, 0xE5] 0x00 [(0x9E, 0xF3), (0x95, 0xCB), (0xCB, 0x88)])
      0x0102 0xFC 0x20 [(0x9E, 0xF3)] = true ∧
    ends (start [0x76, 0x40, 0x80] 0x90 [(0x40, 0x80)]) 0x0103 0xFC 0xA0 [(0x40, 0x80)] = true := by decide

/-- S-XOR-3, D-XOR-1 -/
theorem test_xor :
    ends (start [0xB4, 0x42, 0x3A] 0x00 [(0x3A, 0xF5), (0x42, 0x0A)]) 0x0103 0xFC 0x20 [(0x3A, 0xFF)] = true ∧
    ends (start [0xB2, 0x33] 0x00 [(0x93, 0xA7)]) 0x0102 0xFC 0x40 [(0x93, 0x00)] = true := by decide

/-- D-LDC-2, D-LDE-1: program memory and data memory are different spaces; D-LDC-1: the address is formed before the write. -/
theorem test_ldc_lde_spaces :
    (let s := start [0xC2, 0x26] 0x00 [(0x96, 0x20), (0x97, 0x00)]
     ends { s with prog := memWrite s.prog 0x2000 0x11, data := memWrite s.data 0x2000 0x22 }
      0x0102 0xFC 0x00 [(0x92, 0x11)]) = true ∧
    (let s := start [0x82, 0x26] 0x00 [(0x96, 0x20), (0x97, 0x00)]
     ends { s with prog := memWrite s.prog 0x2000 0x11, data := memWrite s.data 0x2000 0x22 }
      0x0102 0xFC 0x00 [(0x92, 0x22)]) = true ∧
    (let s := start [0xC2, 0x66] 0x00 [(0x96, 0x12), (0x97, 0x34)]
     ends { s with prog := memWrite s.prog 0x1234 0xAB } 0x0102 0xFC 0x00 [(0x96, 0xAB), (0x97, 0x34)]) = true := by decide

/-- D-LDCI-1: both pointers wrap. -/
theorem test_ldci_wraps :
    (let s := start [0xC3, 0x26] 0x00 [(0x92, 0xFF), (0x96, 0xFF), (0x97, 0xFF), (0xFF, 0x80)]
     ends { s with prog := memWrite s.prog 0xFFFF 0x5A } 0x0102 0xFC 0x00
      [(0xFF, 0x5A), (0x92, 0x00), (0x96, 0x00), (0x97, 0x00)]) = true := by decide

/-- The byte of program or data memory after the step. -/
def progAfter (s : State) (a : Word) : Byte :=
  match step s with
  | .next t => t.progByte a
  | _ => 0

def dataAfter (s : State) (a : Word) : Byte :=
  match step s with
  | .next t => memRead t.data a.toNat
  | _ => 0

/-- S-LDC-2, S-LDE-2, D-LDEI-1, and the first execution of S-LDCI-2. -/
theorem test_memory_stores :
    progAfter (start [0xD2, 0x26] 0x00 [(0x92, 0x22), (0x96, 0x10), (0x97, 0xA2)]) 0x10A2 = 0x22 ∧
    dataAfter (start [0x92, 0x26] 0x00 [(0x92, 0x22), (0x96, 0x40), (0x97, 0x4A)]) 0x404A = 0x22 ∧
    dataAfter (start [0x93, 0x26] 0x00 [(0x92, 0x40), (0x40, 0xEE), (0x97, 0xFF)]) 0x00FF = 0xEE ∧
    progAfter (start [0xD3, 0x26] 0x00 [(0x92, 0x20), (0x20, 0x22), (0x96, 0x30), (0x97, 0xA2)]) 0x30A2 = 0x22 := by decide

/-- The same state on a part with an external stack. -/
def external (s : State) : State := { s with chip := { s.chip with stackExternal := true } }

/-- D-CALL-1: SP = 0001H wraps to FFFFH, the high byte of the return address at the lower address. -/
theorem test_call_external :
    dataAfter (external (start [0xD6, 0x02, 0x00] 0x00 [(0xFF, 0x01)])) 0xFFFF = 0x01 ∧
    dataAfter (external (start [0xD6, 0x02, 0x00] 0x00 [(0xFF, 0x01)])) 0x0000 = 0x03 ∧
    ends (external (start [0xD6, 0x02, 0x00] 0x00 [(0xFF, 0x01)])) 0x0200 0xFC 0x00 [(0xFE, 0xFF), (0xFF, 0xFF)] = true := by
  decide

/-- D-IRET-1 and D-RET-2. -/
theorem test_return_external :
    (let s := external (start [0xBF] 0x00 [(0xFE, 0x20), (0xFB, 0x03)])
     ends { s with data := memOfCells [(0x2000, 0xE4), (0x2001, 0x12), (0x2002, 0x34)] } 0x1234 0xFF 0xE4
      [(0xFE, 0x20), (0xFF, 0x03), (0xFB, 0x83)]) = true ∧
    (let s := external (start [0xAF] 0x00 [(0xFE, 0xFF), (0xFF, 0xFF)])
     ends { s with data := memOfCells [(0xFFFF, 0x02), (0x0000, 0x10)] } 0x0210 0xFC 0x00
      [(0xFE, 0x00), (0xFF, 0x01)]) = true := by decide

/-- D-PUSH-3. -/
theorem test_push_external :
    dataAfter (external (start [0x70, 0x40] 0x00 [(0x40, 0x66)])) 0xFFFF = 0x66 := by decide

/-- A program of RP = 0FH: registers 00H-0FH are those of bank F, and what is written there is not in bank 0
(10_state.md R22; program P7). -/
theorem test_expanded_bank :
    (let s := { start [0xE6, 0x04, 0x33] 0x00 [(0x04, 0x11)] with rp := 0x0F, chip := { Chip.full with bankImpl := [(15, 4)] } }
     match step s with
     | .next t => t.valueAt .src (t.loc 0x04) == 0x33 && t.gpr[0] == 0x11
     | _ => false) = true := by decide

/-- M-1 and M-5: interrupt entry on an internal and on an external stack. -/
def asked (s : State) : State :=
  { s with pc := 0x0123, flags := 0xC0, imr := 0x8A, pending := 0x02, inputs := [.env (.accept 1)]
           prog := memOfCells [(0x0002, 0x04), (0x0003, 0x00)] }

theorem test_interrupt_entry :
    ends (asked (start [] 0x00 [(0xFF, 0x80)])) 0x0400 0xFF 0xC0
      [(0xFF, 0x7D), (0x7D, 0xC0), (0x7E, 0x01), (0x7F, 0x23), (0xFB, 0x0A)] = true ∧
    dataAfter (asked (external (start [] 0x00 [(0xFE, 0x20)]))) 0x1FFD = 0xC0 ∧
    dataAfter (asked (external (start [] 0x00 [(0xFE, 0x20)]))) 0x1FFE = 0x01 ∧
    dataAfter (asked (external (start [] 0x00 [(0xFE, 0x20)]))) 0x1FFF = 0x23 := by decide

/-- M-3, M-4, M-7 and M-8: a masked request, and any request in STOP, is not accepted. -/
theorem test_interrupt_masked :
    ends { asked (start [] 0x00 []) with imr := 0x0A } 0x0123 0xFF 0xC0 [] = true ∧
    ends { asked (start [] 0x00 []) with imr := 0x88 } 0x0123 0xFF 0xC0 [] = true ∧
    ends { asked (start [] 0x00 []) with imr := 0x02, runState := .halt, inputs := [] } 0x0123 0xFF 0xC0 [] = true ∧
    ends { asked (start [] 0x00 []) with runState := .stop } 0x0123 0xFF 0xC0 [] = true := by decide

/-- M-6: an enabled request wakes a halted CPU without an event of the environment. -/
theorem test_halt_wakes :
    ends { asked (start [] 0x00 [(0xFF, 0x80)]) with runState := .halt, inputs := [] } 0x0400 0xFF 0xC0 [(0xFF, 0x7D)] =
      true := by decide

/-- M-9, M-11, M-12 and M-13: reset, and when the Watch-Dog's timeout is one. -/
theorem test_reset_and_watch_dog :
    (let pcAfter := fun s => match step s with
      | .next t => t.pc
      | _ => 0
     let s := { start [] 0x00 [] with wdtEnabled := true, inputs := [.env .wdtTick] }
     pcAfter { s with inputs := [.env .reset], runState := .stop } = 0x000C ∧ pcAfter s = 0x000C ∧
     pcAfter { s with wdtEnabled := false } = 0x0100 ∧ pcAfter { s with runState := .halt } = 0x0100 ∧
     pcAfter { s with runState := .halt, wdtInHalt := true } = 0x000C ∧ pcAfter { s with runState := .stop } = 0x0100) := by
  decide

/-- S-WDT-1, M-14 and S-WDH-1: WDT enables and restarts the Watch-Dog; WDH has no effect before it. -/
theorem test_wdt_wdh :
    (match step { start [0x5F] 0x00 [] with wdtCount := 1 } with
     | .next t => t.wdtEnabled && t.wdtCount == 0 && t.pc == 0x0101
     | _ => false) = true ∧
    (match step (start [0x4F] 0x00 []) with
     | .next t => !t.wdtInHalt
     | _ => false) = true ∧
    (match step { start [0x4F] 0x00 [] with wdtEnabled := true } with
     | .next t => t.wdtInHalt
     | _ => false) = true := by decide

/-- S-HALT-1, S-STOP-1 and M-15, one instruction: HALT and STOP after NOP. -/
theorem test_halt_stop :
    (match step { start [0x7F] 0x00 [] with prevNop := true } with
     | .next t => t.runState == .halt && t.pc == 0x0101
     | _ => false) = true ∧
    (match step { start [0x6F] 0x00 [] with prevNop := true } with
     | .next t => t.runState == .stop && t.pc == 0x0101
     | _ => false) = true ∧
    (match step (start [0xFF] 0x00 []) with
     | .next t => t.prevNop
     | _ => false) = true := by decide

/-! The model faults (95_test_vectors.md 2.2). -/

/-- F-1 to F-3. -/
theorem test_fault_encoding :
    faults (start [0x0F] 0x00 []) .unassignedOpcode = true ∧ faults (start [0xC4] 0x00 []) .unassignedOpcode = true ∧
    faults { start [0x5F] 0x00 [] with chip := { Chip.full with wdt := false } } .unassignedOpcode = true ∧
    faults { start [0x4F] 0x00 [] with chip := { Chip.full with wdt := false } } .unassignedOpcode = true ∧
    faults (start [0x39, 0xE5] 0x00 []) .escapeInR9 = true := by decide

/-- F-4 to F-7. -/
theorem test_fault_odd_pair :
    faults (start [0x80, 0x41] 0x00 []) .oddRegisterPair = true ∧
    faults (start [0xA1, 0xE0] 0x00 [(0x90, 0x31)]) .oddRegisterPair = true ∧
    faults (start [0x30, 0xE3] 0x00 []) .oddRegisterPair = true ∧
    faults (start [0xC2, 0x27] 0x00 []) .oddRegisterPair = true := by decide

/-- F-8 to F-13. -/
theorem test_fault_clash :
    faults (start [0x06, 0xFC, 0x01] 0x00 []) .implicitExplicitClash = true ∧
    faults (start [0x50, 0xFF] 0x00 []) .implicitExplicitClash = true ∧
    faults (start [0x70, 0xFE] 0x00 []) .implicitExplicitClash = true ∧
    faults (start [0xD4, 0xFE] 0x00 []) .implicitExplicitClash = true ∧
    faults (start [0xC3, 0x66] 0x00 []) .implicitExplicitClash = true ∧
    faults (start [0xC3, 0x26] 0x00 [(0x92, 0x96)]) .implicitExplicitClash = true := by decide

/-- F-14 to F-19. -/
theorem test_fault_operation :
    faults (start [0x40, 0x40] 0x04 [(0x40, 0x9A)]) .daUndefined = true ∧
    faults (start [0x40, 0x40] 0x08 [(0x40, 0x3C)]) .daUndefined = true ∧
    faults { start [0x6A, 0xFE] 0x00 [] with rp := 0xF0 } .djnzOnNonGeneralRegister = true ∧
    faults { start [0x2A, 0xFE] 0x00 [] with rp := 0x00 } .djnzOnNonGeneralRegister = true ∧
    faults (start [0x7F] 0x00 []) .haltWithoutNop = true ∧ faults (start [0x6F] 0x00 []) .stopWithoutNop = true := by decide

/-- F-20 to F-24. -/
theorem test_fault_part :
    faults { start [0x82, 0x26] 0x00 [] with chip := { Chip.full with extData := false } } .notOnThisPart = true ∧
    faults { start [0xD2, 0x26] 0x00 [] with chip := { Chip.full with extProg := false } } .notOnThisPart = true ∧
    faults (start [0xD2, 0x26] 0x00 [(0x96, 0x01), (0x97, 0x02)]) .storeIntoPipeline = true ∧
    faults { start [0xE6, 0xC0, 0x00] 0x00 [] with chip := { Chip.full with absentRegs := [0xC0] } }
      .unimplementedRegister = true ∧
    faults { start [0x50, 0x40] 0x00 [] with chip := { Chip.full with extData := false, stackExternal := true } }
      .notOnThisPart = true := by decide

/-! Parameters of the part other than the defaults. -/

/-- P_FLAG_BITS and P_CC: with C in bit 0, Z in bit 1 and condition 4 true of "not C", SUB 01H - 02H sets bit 0 and leaves
bit 1, and JR on condition 4 is then not taken. -/
def mirrored : Chip :=
  { Chip.full with flagBits := ⟨0, 1, 2, 3, 4, 5⟩, cond := { CondTable.standard with ov := .not .c } }

theorem test_other_layout : mirrored.wf = true ∧
    ends { start [0x26, 0x40, 0x02] 0xC0 [(0x40, 0x01)] with chip := mirrored } 0x0103 0xFF 0xF5 [(0x40, 0xFF)] = true ∧
    ends { start [0x4B, 0x10] 0x01 [] with chip := mirrored } 0x0102 0xFF 0x01 [] = true ∧
    ends { start [0x4B, 0x10] 0x80 [] with chip := mirrored } 0x0112 0xFF 0x80 [] = true := by decide

/-- P_IRQ_PRIORITY: of two ready requests, one that the other has priority over is not accepted (60_exceptions.md R287). -/
theorem test_priority :
    (let s := { asked (start [] 0x00 [(0xFF, 0x80)]) with
      pending := 0x0A, chip := { Chip.full with irqPriority := [3, 1] } }
     ends s 0x0123 0xFF 0xC0 [(0xFF, 0x80)] = true ∧
     ends { s with inputs := [.env (.accept 3)] } 0x0000 0xFF 0xC0 [(0xFF, 0x7D)] = true ∧
     ends { s with inputs := [], runState := .halt } 0x0000 0xFF 0xC0 [(0xFF, 0x7D)] = true ∧
     ends { s with chip := Chip.full } 0x0400 0xFF 0xC0 [(0xFF, 0x7D)] = true) := by decide

/-- R211 and R213: a clash of the byte pointer with the pair is found before any register is read. -/
theorem test_clash_before_read :
    (let c := { Chip.full with absentRegs := [0x96, 0x97] }
     faults { start [0xC3, 0x66] 0x00 [] with chip := c } .implicitExplicitClash = true ∧
     faults { start [0x93, 0x76] 0x00 [] with chip := c } .implicitExplicitClash = true ∧
     faults { start [0x83, 0x67] 0x00 [] with chip := c } .oddRegisterPair = true ∧
     faults { start [0xD3, 0x26] 0x00 [] with chip := c } .unimplementedRegister = true) := by decide

/-! ## Witnesses: concrete states and operands that meet the hypotheses of each obligation, every clause of it -/

/-- The outcome is a next state. -/
def goes (o : Outcome) : Bool :=
  match o with
  | .next _ => true
  | _ => false

/-- A state with RP = 70H, room on the stack, and something in the registers the witnesses name. -/
def wit : State :=
  { State.reset with
    rp := 0x70, spl := 0x80, pc := 0x0100
    gpr := ((((((((State.reset.gpr.set 0x6F 0x16).set 0x77 0x20).set 0x1C 0x11).set 0x72 0x30).set 0x73 0xA2).set 0x6E 0x40).set
      0x00 0x45).set 0xEB 0x99) }

/-- The same state on a part with bank 5 register F, bank 5 selected. -/
def witBank : State :=
  { wit with rp := 0x75, chip := { Chip.full with bankImpl := [(5, 15), (5, 0)], absentRegs := [0x04, 0xC0] } }

/-- The same state with the Watch-Dog counting to three. -/
def witDog : State :=
  { wit with chip := { Chip.full with wdtTimeout := 3, wdtInStop := true }, wdtEnabled := true, wdtInHalt := true }

/-- On a part without external data memory. -/
def noData (s : State) : State := { s with chip := { s.chip with extData := false } }

theorem witness_DecodeEncode : HasEncoding (.adc_R_R (.reg 0xDF) (.reg 0xF0)) = true ∧
    HasEncoding (.ld_R_r 0xEF 15) = true := by decide

theorem witness_EncodeDecode : decode [0x14, 0xEF, 0xF0, 0x00] = .ok (.adc_R_R (.reg 0xF0) (.wr 15), [0x00]) := by decide

theorem witness_LengthByFirstByte : decode [0xFF] = .ok (.nop, []) ∧
    decode [0xD4, 0xA4] = .ok (.call_IRR (.reg 0xA4), []) ∧ decode [0x0D, 0x15, 0x20] = .ok (.jp_cc_DA .f 0x1520, []) ∧
    decode [0x04, 0x12, 0x34] = .ok (.add_R_R (.reg 0x34) (.reg 0x12), []) := by decide

theorem witness_UnassignedOpcodes :
    (let s := start [0xF7] 0x00 []
     s.runState = .run ∧ s.cpuTurn = true ∧ ∀ i rest, decode s.fetchBytes ≠ .ok (i, rest)) ∧
    (noData { wit with chip := { Chip.full with wdt := false } }).chip.wdt = false := by
  refine ⟨⟨by decide, by decide, fun i rest h => ?_⟩, by decide⟩
  have e : decode (start [0xF7] 0x00 []).fetchBytes = .error (.unassignedOpcode 0xF7) := by decide
  rw [e] at h; cases h

/-- The PC at the top of memory: the instruction's bytes wrap to address 0. -/
def witTop : State := { wit with pc := 0xFFFF, prog := memOfCells [(0xFFFF, 0x14), (0x0000, 0x12), (0x0001, 0x34)], inputs := [.cpu] }

theorem witness_StepRunsDecoded : witTop.runState = .run ∧ witTop.cpuTurn = true ∧
    decode [witTop.progByte witTop.pc, witTop.progByte (witTop.pc + 1), witTop.progByte (witTop.pc + 2)] =
      .ok (.adc_R_R (.reg 0x34) (.reg 0x12), []) := by decide

theorem witness_PcAdvances : witTop.runState = .run ∧ witTop.cpuTurn = true ∧
    decode witTop.fetchBytes = .ok (.adc_R_R (.reg 0x34) (.reg 0x12), []) ∧ mayJump (.adc_R_R (.reg 0x34) (.reg 0x12)) = false ∧
    goes (step witTop) = true := by decide

theorem witness_PlacedWordRuns : memWf witTop.prog = true ∧ (24 : Nat) ≤ 24 ∧
    decodeTableWord 24 0x341214 = some (.adc_R_R (.reg 0x34) (.reg 0x12)) := by decide

theorem witness_StepKeepsInv : State.reset.Inv ∧ goes (step { State.reset with inputs := [.env (.request 3)] }) = true := by
  refine ⟨⟨by decide, by decide, by decide, by decide, by decide, by decide, fun n hn => ?_, by decide⟩, by decide⟩
  simp [State.reset] at hn

theorem witness_ProgramMemoryChanges :
    (let s := start [0xD2, 0x26] 0x00 [(0x92, 0x22), (0x96, 0x10), (0x97, 0xA2)]
     memWf s.prog = true ∧ goes (step s) = true ∧ progAfter s 0x10A2 ≠ s.progByte 0x10A2) := by decide

theorem witness_PreviousNop : goes (exec .nop wit) = true ∧ goes (exec .ccf { wit with prevNop := true }) = true ∧
    goes (takeInterrupt 1 { wit with prevNop := true }) = true := by decide

/-- Bank registers at both ends, an absent register and an address below it that a bank hides, both ends of the general
registers, the five control registers, and the ends of the oracle's registers. -/
theorem witness_RegisterAccess :
    (hiNib 0x0F = 0 ∧ loNib witBank.rp ≠ 0 ∧ (loNib witBank.rp, loNib 0x0F) ∈ witBank.chip.bankImpl ∧
      (79 : Fin 240).val = ((loNib witBank.rp).toNat - 1) * 16 + (loNib 0x0F).toNat) ∧
    (¬ (hiNib 0x04 = 0 ∧ loNib witBank.rp ≠ 0 ∧ (loNib witBank.rp, loNib 0x04) ∈ witBank.chip.bankImpl) ∧
      (0x04 : Byte) ∈ witBank.chip.absentRegs) ∧
    (¬ (hiNib 0x04 = 0 ∧ loNib wit.rp ≠ 0 ∧ (loNib wit.rp, loNib 0x04) ∈ wit.chip.bankImpl) ∧
      (0x04 : Byte) ∉ wit.chip.absentRegs ∧ (0x04 : Byte).toNat = (0 : Fin 236).val + 4) ∧
    (¬ (hiNib 0xEF = 0 ∧ loNib witBank.rp ≠ 0 ∧ (loNib witBank.rp, loNib 0xEF) ∈ witBank.chip.bankImpl) ∧
      (0xEF : Byte) ∉ witBank.chip.absentRegs ∧ (0xEF : Byte).toNat = (235 : Fin 236).val + 4) ∧
    witBank.chip.wf = true ∧
    (∀ a ∈ ([0x03, 0xF0, 0xFA] : List Byte),
      ¬ (hiNib a = 0 ∧ loNib witBank.rp ≠ 0 ∧ (loNib witBank.rp, loNib a) ∈ witBank.chip.bankImpl) ∧
      a ∉ witBank.chip.absentRegs ∧ (a.toNat < 4 ∨ (0xF0 ≤ a.toNat ∧ a.toNat < 0xFB))) :=
  ⟨by decide, by decide, by decide, by decide, by decide, by decide⟩

theorem witness_WriteThenRead : wit.writeReg 0xFD 0x0F = .ok (wit.store (wit.loc 0xFD) 0x0F) ∧ (∀ x, wit.loc 0xFD ≠ .device x) ∧
    witBank.writeReg 0x0F 0x33 = .ok (witBank.store (witBank.loc 0x0F) 0x33) ∧ (∀ x, witBank.loc 0x0F ≠ .device x) :=
  ⟨rfl, by decide, rfl, by decide⟩

theorem witness_AddressesDistinct : witBank.loc 0x0F = witBank.loc 0x0F := by decide

/-- Every address range of it: 10H; a bank register at each end of the window; bank 0's registers and ports behind the bank. -/
theorem witness_SrpMovesWindow : 0x10 ≤ (0x10 : Byte).toNat ∧
    ((0x75 : Byte).toNat % 16 ≠ 0 ∧ (loNib 0x75, loNib 0x0F) ∈ witBank.chip.bankImpl ∧
      (79 : Fin 240).val = ((0x75 : Byte).toNat % 16 - 1) * 16 + (0x0F : Byte).toNat) ∧
    ((loNib 0x75, loNib 0x00) ∈ witBank.chip.bankImpl ∧
      (64 : Fin 240).val = ((0x75 : Byte).toNat % 16 - 1) * 16 + (0x00 : Byte).toNat) ∧
    (¬ ((0x75 : Byte).toNat % 16 ≠ 0 ∧ (loNib 0x75, loNib 0x0E) ∈ witBank.chip.bankImpl) ∧
      (0x0E : Byte).toNat = (10 : Fin 236).val + 4) ∧
    (¬ ((0x70 : Byte).toNat % 16 ≠ 0 ∧ (loNib 0x70, loNib 0x03) ∈ witBank.chip.bankImpl) ∧ (0x03 : Byte).toNat < 4) := by decide

/-- Written under bank 5, read under bank 0; and written under bank 0, where address 0FH is bank 0's, read under bank 5. -/
theorem witness_BanksApart : witBank.inBank 0x0F = true ∧
    witBank.writeReg 0x0F 0x33 = .ok (witBank.store (witBank.loc 0x0F) 0x33) ∧ loNib 0x70 ≠ loNib witBank.rp ∧
    (let s := { witBank with rp := 0x70 }
     s.inBank 0x0F = false ∧ s.writeReg 0x0F 0x33 = .ok (s.store (s.loc 0x0F) 0x33) ∧
      { s with rp := 0x75 }.inBank 0x0F = true) :=
  ⟨by decide, rfl, by decide, by decide, rfl, by decide⟩

theorem witness_MemoryReadWrite : memWf [(0, 0x11), (65535, 0x22)] = true := by decide

theorem witness_MemoryCanonical : memWf [(65535, 0x22)] = true ∧
    ∀ a, a < 65536 → memRead [(65535, 0x22)] a = memRead [(65535, 0x22)] a := ⟨by decide, fun _ _ => rfl⟩

theorem witness_CallThenRet : wit.roomFor 2 = true ∧ memWf wit.data = true ∧ (external wit).roomFor 2 = true ∧
    { wit with spl := 0x06 }.roomFor 2 = true := by decide

/-- The same on a part that puts source 1 before source 0, with both pending and enabled. -/
def ordered (s : State) : State :=
  { asked s with chip := { s.chip with irqPriority := [3, 1, 0] }, pending := 0x03, imr := 0x83 }

theorem witness_InterruptEntry : (let s := asked wit
    s.inputs = .env (.accept 1) :: [] ∧ s.runState ≠ .stop ∧ 1 < s.chip.nIrq ∧ s.pending.getLsbD 1 = true ∧
      s.imr.getLsbD 7 = true ∧ s.imr.getLsbD 1 = true ∧ s.roomFor 3 = true ∧ memWf s.data = true) ∧
    (let s := ordered wit
     s.inputs = .env (.accept 1) :: [] ∧ s.pending.getLsbD 1 = true ∧ s.imr.getLsbD 1 = true ∧
      ∀ m, m < s.chip.nIrq → s.pending.getLsbD m = true → s.imr.getLsbD m = true → s.chip.before m 1 = false) := by decide

theorem witness_EntryThenIret : (asked wit).imr.getLsbD 7 = true ∧ (asked wit).roomFor 3 = true ∧ memWf (asked wit).data = true ∧
    (asked (external wit)).roomFor 3 = true := by decide

theorem witness_RequestsAndMasking :
    ({ wit with inputs := [.env (.request 5)] } : State).inputs = .env (.request 5) :: [] ∧ wit.chip.wf = true ∧
    (let s := { asked wit with runState := .stop }
     s.inputs = .env (.accept 1) :: [] ∧ ¬ (s.runState ≠ .stop ∧ 1 < s.chip.nIrq ∧ s.pending.getLsbD 1 = true ∧
      s.imr.getLsbD 7 = true ∧ s.imr.getLsbD 1 = true)) ∧
    (let s := { ordered wit with inputs := [.env (.accept 0)] }
     s.inputs = .env (.accept 0) :: [] ∧
      ¬ (∀ m, m < s.chip.nIrq → s.pending.getLsbD m = true → s.imr.getLsbD m = true → s.chip.before m 0 = false)) := by decide

theorem witness_HaltWaitsAndWakes :
    (let s := { asked wit with runState := .halt, inputs := [] }
     s.runState = .halt ∧ s.cpuTurn = true ∧ 1 < s.chip.nIrq ∧ s.pending.getLsbD 1 = true ∧ s.imr.getLsbD 7 = true ∧
      s.imr.getLsbD 1 = true) ∧
    (let s := { asked wit with runState := .halt, inputs := [.cpu], imr := 0x0A }
     s.runState = .halt ∧ s.cpuTurn = true ∧ ∀ n, ¬ (n < s.chip.nIrq ∧ s.pending.getLsbD n = true ∧ s.imr.getLsbD 7 = true ∧
      s.imr.getLsbD n = true)) :=
  ⟨by decide, by decide, by decide, fun _ h => absurd h.2.2.1 (by decide)⟩

theorem witness_PriorityOrder :
    (let s := { ordered wit with runState := .halt, inputs := [] }
     let ready (m : Nat) := m < s.chip.nIrq ∧ s.pending.getLsbD m = true ∧ s.imr.getLsbD 7 = true ∧ s.imr.getLsbD m = true
     s.runState = .halt ∧ s.cpuTurn = true ∧ s.chip.irqPriority = [3] ++ 1 :: [0] ∧ ready 1 ∧ (∀ m ∈ [3], ¬ ready m) ∧
      (∀ m, m < s.chip.nIrq → ready m → m = 1 ∨ m ∈ [0])) := by decide

theorem witness_StopEndsByReset : goes (step { wit with runState := .stop }) = true ∧
    goes (step { witDog with runState := .stop, inputs := [.env .wdtTick], wdtCount := 2 }) = true := by decide

theorem witness_ResetEffect : ({ wit with runState := .stop, inputs := [.env .reset] } : State).inputs = .env .reset :: [] := by
  decide

/-- Not counting; counting one below the terminal count; at the terminal count, in each run state that counts. -/
theorem witness_WatchDogTick :
    (let s : State := { wit with inputs := [.env .wdtTick] }
     s.inputs = .env .wdtTick :: [] ∧ s.wdtEnabled = false) ∧
    (let s : State := { witDog with inputs := [.env .wdtTick], wdtCount := 1 }
     s.inputs = .env .wdtTick :: [] ∧ s.wdtEnabled = true ∧ s.runState = .run ∧ s.wdtCount + 1 < s.chip.wdtTimeout) ∧
    (let s : State := { witDog with inputs := [.env .wdtTick], wdtCount := 2, runState := .halt }
     s.wdtEnabled = true ∧ s.runState = .halt ∧ s.wdtInHalt = true ∧ s.chip.wdtTimeout ≤ s.wdtCount + 1) ∧
    (let s : State := { witDog with inputs := [.env .wdtTick], wdtCount := 2, runState := .stop }
     s.wdtEnabled = true ∧ s.runState = .stop ∧ s.chip.wdtInStop = true ∧ s.chip.wdtTimeout ≤ s.wdtCount + 1) := by decide

theorem witness_AddAdcResult : wit.chip.wf = true ∧ Readable wit (TwoForm.rr 3 11).dst (TwoForm.rr 3 11).src 0x73 0x16 0x20 ∧ (0x73 : Byte) ≠ 0xFC ∧
    Readable wit (TwoForm.indImm (.wr 11) 0xFF).dst (TwoForm.indImm (.wr 11) 0xFF).src 0x20 0x11 0xFF :=
  ⟨by decide, ⟨by decide, by decide, by decide⟩, by decide, ⟨by decide, by decide, by decide⟩⟩

theorem witness_SubSbcResult : wit.chip.wf = true ∧ Readable wit (TwoForm.rIr 3 11).dst (TwoForm.rIr 3 11).src 0x73 0x16 0x11 ∧ (0x73 : Byte) ≠ 0xFC :=
  ⟨by decide, ⟨by decide, by decide, by decide⟩, by decide⟩

theorem witness_CpResult : wit.chip.wf = true ∧ Readable wit (TwoForm.regImm (.reg 0xFC) 0xA0).dst (TwoForm.regImm (.reg 0xFC) 0xA0).src 0xFC 0x00 0xA0 :=
  ⟨by decide, by decide, by decide, by decide⟩

theorem witness_CompareThenCondition : Readable wit (TwoForm.rr 3 11).dst (TwoForm.rr 3 11).src 0x73 0x16 0x20 ∧
    goes (exec (TwoForm.rr 3 11).cp wit) = true ∧ wit.chip.wf = true ∧ wit.chip.cond = .standard :=
  ⟨⟨by decide, by decide, by decide⟩, by decide, by decide, by decide⟩

theorem witness_ConditionCodes : wit.chip.wf = true ∧ wit.chip.cond = .standard := by decide

theorem witness_WideAddition : (∀ x ∈ ([0x04, 0xEF, 0x04, 0x73] : List Byte), 4 ≤ x.toNat ∧ x.toNat < 0xF0) ∧
    (0x04 : Byte) ≠ 0xEF ∧ wit.readReg .dst 0x04 = .ok 0x45 ∧ wit.readReg .dst 0xEF = .ok 0x99 ∧
    wit.readReg .dst 0x73 = .ok 0x16 ∧ wit.chip.wf = true := by decide

theorem witness_LogicResult : Readable wit (TwoForm.regReg (.reg 0x04) (.reg 0xEF)).dst (TwoForm.regReg (.reg 0x04) (.reg 0xEF)).src
      0x04 0x45 0x99 ∧ (0x04 : Byte) ≠ 0xFC ∧ wit.dstAddr (OneForm.ind (.wr 11)).place = .ok 0x20 ∧ wit.readReg .dst 0x20 = .ok 0x11 ∧
    wit.chip.wf = true :=
  ⟨⟨by decide, by decide, by decide⟩, by decide, by decide, by decide, by decide⟩

theorem witness_TcmTmResult : wit.chip.wf = true ∧ Readable wit (TwoForm.regInd (.reg 0xFC) (.wr 11)).dst (TwoForm.regInd (.reg 0xFC) (.wr 11)).src
    0xFC 0x00 0x11 := ⟨by decide, by decide, by decide, by decide⟩

theorem witness_IncDecResult : wit.readReg .dst 0x73 = .ok 0x16 ∧ (0x73 : Byte) ≠ 0xFC ∧
    wit.dstAddr (OneForm.reg (.wr 3)).place = .ok 0x73 ∧ wit.wrAddr 3 = 0x73 ∧ wit.chip.wf = true := by decide

theorem witness_IncwDecwResult : (OneForm.reg (.wr 6)).pair wit = .ok 0x76 ∧ (0x76 : Byte).toNat % 2 = 0 ∧ (0x76 : Byte) ≠ 0xFC ∧
    wit.readReg .pairHi 0x76 = .ok 0x30 ∧ wit.readReg .pairLo (0x76 + 1) = .ok 0xA2 ∧ (OneForm.ind (.wr 2)).pair wit = .ok 0x40 ∧
    wit.chip.wf = true := by decide

/-- A row that covers the operand; F-14 of the spec, 9AH after an addition with a half carry, which no row covers. -/
theorem witness_DaResult :
    (wit.dstAddr (OneForm.reg (.wr 3)).place = .ok 0x73 ∧ wit.readReg .dst 0x73 = .ok 0x16 ∧ wit.chip.wf = true ∧
      ⟨false, false, 0x0, 0x9, false, 0x0, 0x9, 0x00, false⟩ ∈ daTable ∧
      (⟨false, false, 0x0, 0x9, false, 0x0, 0x9, 0x00, false⟩ : DaRow).covers 0x16 (wit.flag .c) (wit.flag .h)
        (wit.flag .d) = true) ∧
    (let s := { wit with flags := 0x04, gpr := wit.gpr.set 0x73 0x9A }
     s.dstAddr (OneForm.reg (.wr 7)).place = .ok 0x77 ∧ s.readReg .dst 0x77 = .ok 0x9A ∧
      ∀ row ∈ daTable, row.covers 0x9A (s.flag .c) (s.flag .h) (s.flag .d) = false) := by decide

theorem witness_DecimalArithmetic :
    Readable wit (.reg (.reg 0x73)) (.place (.reg (.reg 0x04))) 0x73 0x16 0x45 ∧ isBcd 0x16 = true ∧ isBcd 0x45 = true ∧
    goes (exec (.adc_R_R (.reg 0x73) (.reg 0x04)) wit) = true ∧ goes (exec (.sbc_R_R (.reg 0x73) (.reg 0x04)) wit) = true ∧
    4 ≤ (0x73 : Byte).toNat ∧ (0x73 : Byte).toNat < 0xF0 ∧ wit.chip.wf = true :=
  ⟨⟨by decide, by decide, by decide⟩, by decide, by decide, by decide, by decide, by decide, by decide, by decide⟩

theorem witness_RotateResult : wit.dstAddr (OneForm.ind (.wr 11)).place = .ok 0x20 ∧ wit.readReg .dst 0x20 = .ok 0x11 ∧
    (0x20 : Byte) ≠ 0xFC ∧ wit.chip.wf = true := by decide

theorem witness_SraSwapResult : wit.dstAddr (OneForm.reg (.reg 0xEF)).place = .ok 0xEF ∧ wit.readReg .dst 0xEF = .ok 0x99 ∧
    (0xEF : Byte) ≠ 0xFC ∧ wit.chip.wf = true := by decide

theorem witness_ClrLdResult :
    (wit.dstAddr (OneForm.ind (.wr 11)).place = .ok 0x20 ∧ wit.absent 0x20 = false) ∧
    (wit.dstAddr (LoadForm.rX 3 2 0xE4).dst = .ok 0x73 ∧ { wit with gpr := wit.gpr }.srcVal (LoadForm.rX 3 11 0x00).src = .ok 0x11 ∧
      wit.absent 0x73 = false) ∧
    ((0xDF : Byte).toNat / 16 ≠ 0xE ∧ wit.readWr .src 3 = .ok 0x16 ∧ wit.absent 0xDF = false) ∧
    (0xEF : Byte).toNat / 16 = 0xE := by decide

/-- What the clauses ask of a part and an address, LDCI's and LDC's alike. -/
def canReach (s : State) (a : Word) : Prop := ¬ Listed s.chip.progUnreached a
def canStore (s : State) (a : Word) : Prop := s.chip.extProg = true ∧ ¬ Listed s.chip.progReadOnly a ∧ canReach s a

/-- Parts that cannot store to or cannot reach 30A2H, the end of a range, and one that cannot store at all. -/
def witReadOnly : State := { wit with chip := { Chip.full with progReadOnly := [⟨0x30A2, 0x30A2⟩] } }
def witUnreached : State := { wit with chip := { Chip.full with progUnreached := [⟨0x3000, 0x30A2⟩] } }
def witNoProg : State := { wit with chip := { Chip.full with extProg := false } }

theorem witness_canStore : canReach wit 0x30A2 ∧ canStore wit 0x30A2 ∧ canStore witReadOnly 0x30A3 ∧ ¬ canStore witReadOnly 0x30A2 ∧
    ¬ canReach witUnreached 0x30A2 ∧ ¬ canStore witUnreached 0x30A2 ∧ ¬ canStore witNoProg 0x30A2 := by
  unfold canReach canStore canReach; decide

theorem witness_LdcLdeResult :
    wit.readWrPair 6 = .ok 0x30A2 ∧ wit.absent (wit.wrAddr 2) = false ∧ wit.chip.extData = true ∧
    wit.readWr .src 2 = .ok 0x40 ∧
    ¬ ((0x30A2 : Word) = wit.pc ∨ (0x30A2 : Word) = wit.pc + 1 ∨ (0x30A2 : Word) = wit.pc + 2) ∧
    (let s := { wit with pc := 0x30A0 }
     s.readWrPair 6 = .ok 0x30A2 ∧ (0x30A2 : Word) = s.pc + 2) ∧
    witReadOnly.readWrPair 6 = .ok 0x30A2 ∧ witUnreached.readWrPair 6 = .ok 0x30A2 ∧ witNoProg.readWrPair 6 = .ok 0x30A2 ∧
    ((noData wit).readWrPair 6 = .ok 0x30A2 ∧ (noData wit).chip.extData = false) := by decide

theorem witness_LdciLdeiResult :
    wit.readWrPair 6 = .ok 0x30A2 ∧ (2 : Nibble) ≠ 6 ∧ (2 : Nibble) ≠ 6 + 1 ∧ wit.wrAddr 2 ≠ 0xFD ∧
    wit.readWr .dstPtr 2 = .ok 0x40 ∧ (0x40 : Byte) ∉ [wit.wrAddr 2, wit.wrAddr 6, wit.wrAddr (6 + 1), 0xFD] ∧
    wit.absent 0x40 = false ∧ wit.chip.extData = true ∧
    wit.readWr .srcPtr 2 = .ok 0x40 ∧ wit.readReg .src 0x40 = .ok 0x00 ∧
    ¬ ((0x30A2 : Word) = wit.pc ∨ (0x30A2 : Word) = wit.pc + 1 ∨ (0x30A2 : Word) = wit.pc + 2) ∧
    (let s := { wit with pc := 0x30A2 }
     s.readWrPair 6 = .ok 0x30A2 ∧ s.readWr .srcPtr 2 = .ok 0x40 ∧ (0x30A2 : Word) = s.pc) ∧
    (witUnreached.readWrPair 6 = .ok 0x30A2 ∧ witUnreached.readWr .dstPtr 2 = .ok 0x40) ∧
    (witNoProg.readWrPair 6 = .ok 0x30A2 ∧ witNoProg.readWr .srcPtr 2 = .ok 0x40) ∧
    ((noData wit).readWrPair 6 = .ok 0x30A2 ∧ (noData wit).readWr .dstPtr 2 = .ok 0x40 ∧
      (noData wit).readWr .srcPtr 2 = .ok 0x40 ∧ (noData wit).chip.extData = false) := by decide

theorem witness_PushResult :
    (wit.placeAddr .srcPtr (OneForm.ind (.wr 11)).place = .ok 0x20 ∧ wit.readReg .src 0x20 = .ok 0x11 ∧
      wit.chip.stackExternal = false ∧ wit.absent (wit.spl - 1) = false) ∧
    (let s := external { wit with spl := 0x00 }
     s.placeAddr .srcPtr (OneForm.reg (.reg 0xFD)).place = .ok 0xFD ∧ s.readReg .src 0xFD = .ok 0x70 ∧
      s.chip.stackExternal = true ∧ s.chip.extData = true) ∧
    (let s := noData (external wit)
     s.placeAddr .srcPtr (OneForm.reg (.wr 3)).place = .ok 0x73 ∧ s.readReg .src 0x73 = .ok 0x16 ∧
      s.chip.stackExternal = true ∧ s.chip.extData = false) := by decide

theorem witness_PopResult :
    (wit.dstAddr (OneForm.reg (.reg 0xFD)).place = .ok 0xFD ∧ wit.absent 0xFD = false ∧ wit.chip.stackExternal = false ∧
      wit.readReg .stack0 wit.spl = .ok 0x00) ∧
    (let s := external { wit with sph := 0xFF, spl := 0xFF }
     s.dstAddr (OneForm.ind (.wr 11)).place = .ok 0x20 ∧ s.absent 0x20 = false ∧ s.chip.stackExternal = true ∧
      s.chip.extData = true) ∧
    (let s := noData (external wit)
     s.dstAddr (OneForm.reg (.wr 3)).place = .ok 0x73 ∧ s.absent 0x73 = false ∧ s.chip.stackExternal = true ∧
      s.chip.extData = false) := by decide

theorem witness_CallResult :
    ((wit.regAddr (.wr 6)).toNat % 2 = 0 ∧ wit.regAddr (.wr 6) ≠ 0xFE ∧ wit.readPair (wit.regAddr (.wr 6)) = .ok 0x30A2) ∧
    (wit.chip.stackExternal = false ∧ wit.absent (wit.spl - 2) = false ∧ wit.absent (wit.spl - 1) = false) ∧
    ((external wit).chip.stackExternal = true ∧ (external wit).chip.extData = true ∧
      (external wit).readPair ((external wit).regAddr (.wr 6)) = .ok 0x30A2) ∧
    (let s := noData (external wit)
     s.chip.stackExternal = true ∧ s.chip.extData = false ∧ s.readPair (s.regAddr (.wr 6)) = .ok 0x30A2) := by decide

/-- An internal stack that runs into FLAGS and SPL: IRET reads them as it has just left them. -/
theorem witness_ReturnResult :
    (let s := { wit with spl := 0x76 }
     s.chip.stackExternal = false ∧ s.readReg .stack0 s.spl = .ok 0x30 ∧ s.readReg .stack1 (s.spl + 1) = .ok 0xA2) ∧
    (let s := { wit with spl := 0xFD }
     s.readReg .stack0 s.spl = .ok 0x70 ∧
      { s with flags := 0x70, spl := s.spl + 1 }.readReg .stack1 (s.spl + 1) = .ok 0x00 ∧
      { s with flags := 0x70, spl := s.spl + 1 }.readReg .stack2 (s.spl + 2) = .ok 0xFE) ∧
    ((external wit).chip.stackExternal = true ∧ (external wit).chip.extData = true) ∧
    ((noData (external wit)).chip.stackExternal = true ∧ (noData (external wit)).chip.extData = false) := by decide

theorem witness_JumpResult : (wit.regAddr (.wr 6)).toNat % 2 = 0 ∧ wit.readPair (wit.regAddr (.wr 6)) = .ok 0x30A2 := by decide

theorem witness_DjnzResult :
    (let s := { wit with rp := 0x00 }
     4 ≤ (s.wrAddr 4).toNat ∧ (s.wrAddr 4).toNat < 0xF0 ∧ s.readWr .dst 4 = .ok 0x45 ∧ (s.wrAddr 3).toNat < 4) ∧
    (let s := { wit with rp := 0xE0 }
     (s.wrAddr 15).toNat < 0xF0 ∧ s.readWr .dst 15 = .ok 0x99) ∧
    0xF0 ≤ ({ wit with rp := 0xF0 }.wrAddr 0).toNat := by decide

theorem witness_HaltStopResult : ({ wit with prevNop := true } : State).prevNop = true ∧ wit.prevNop = false := by decide

theorem witness_WatchDogInstructions : wit.chip.wdt = true ∧ wit.chip.wf = true := by decide

theorem witness_OddPairFaults : (OneForm.ind (.wr 6)).pair { wit with gpr := wit.gpr.set 0x72 0x31 } = .ok 0x31 ∧
    (OneForm.reg (.wr 15)).pair wit = .ok 0x7F ∧ (0x7F : Byte).toNat % 2 = 1 ∧ (0x31 : Byte).toNat % 2 = 1 ∧
    (wit.regAddr (.reg 0xFF)).toNat % 2 = 1 ∧ (15 : Nibble).toNat % 2 = 1 := by decide

theorem witness_ClashFaults :
    Readable wit (TwoForm.regImm (.reg 0xFC) 1).dst (TwoForm.regImm (.reg 0xFC) 1).src 0xFC 0x00 1 ∧
    wit.dstAddr (OneForm.reg (.reg 0xFC)).place = .ok 0xFC ∧ wit.readReg .dst 0xFC = .ok 0x00 ∧
    (OneForm.reg (.reg 0xFC)).pair wit = .ok 0xFC ∧ { wit with rp := 0xF0 }.wrAddr 12 = 0xFC ∧
    wit.dstAddr (OneForm.reg (.reg 0xFF)).place = .ok 0xFF ∧ wit.placeAddr .srcPtr (OneForm.reg (.reg 0xFE)).place = .ok 0xFE ∧
    wit.regAddr (.reg 0xFE) = 0xFE ∧ (6 : Nibble).toNat % 2 = 0 ∧ { wit with rp := 0xF0 }.wrAddr 13 = 0xFD ∧
    (⟨false, false, 0x0, 0x9, false, 0x0, 0x9, 0x00, false⟩ : DaRow).covers 0x00 (wit.flag .c) (wit.flag .h)
      (wit.flag .d) = true ∧
    (let s := { wit with gpr := wit.gpr.set 0x6E 0x77 }
     s.readWrPair 6 = .ok 0x30A2 ∧ s.readWr .dstPtr 2 = .ok 0x77 ∧
      (0x77 : Byte) ∈ [s.wrAddr 2, s.wrAddr 6, s.wrAddr (6 + 1), 0xFD]) ∧
    (let s := { wit with gpr := wit.gpr.set 0x6E 0xFD }
     s.readWrPair 6 = .ok 0x30A2 ∧ s.readWr .dstPtr 2 = .ok 0xFD) :=
  ⟨⟨by decide, by decide, by decide⟩, by decide, by decide, by decide, by decide, by decide, by decide, by decide, by decide,
    by decide, by decide, by decide, by decide⟩

theorem witness_RegisterFrame : goes (exec (.pop_IR (.wr 11)) wit) = true ∧ RegLoc.sph ∉ destLocs (.pop_IR (.wr 11)) wit := by decide

theorem witness_FlagFrame : goes (exec (.add_r_r 3 11) wit) = true ∧ RegLoc.flags ∉ destLocs (.add_r_r 3 11) wit ∧
    (∀ x ∈ flagsOf (.add_r_r 3 11), (wit.chip.flagBits.at x).val ≠ 1) := by decide

theorem witness_MemoryFrame : memWf (external wit).prog = true ∧ memWf (external wit).data = true ∧
    goes (exec (.call_DA 0x1234) (external wit)) = true ∧ (0x0081 : Word) ∉ dataStores (.call_DA 0x1234) (external wit) ∧
    (0x007E : Word) ∈ dataStores (.call_DA 0x1234) (external wit) ∧ (0x0000 : Word) ∉ progStores (.call_DA 0x1234) (external wit) := by
  decide

theorem witness_MachineFrame : goes (exec (.ld_R_IM (.reg 0x03) 0x55) wit) = true ∧ goes (exec .wdt wit) = true := by decide

end Sys2Proof.Tests
end

/-! PROOFS of the family 00_scope.md: what a step can be (StepRunsDecoded), and what every step keeps (StepKeepsInv). -/

namespace Sys2Proof

/-! ## How long a decoded instruction is (30_encoding.md R107) -/

/-- Whatever the reader answers with is an instruction of `n` bytes. -/
def ReadsLength (n : Nat) (r : Reader) : Prop :=
  ∀ (bs : List Byte) (i : Instr) (rest : List Byte), r bs = .ok (i, rest) → (encode i).length = n

theorem readsLength_unassigned (n : Nat) (b0 : Byte) : ReadsLength n (unassigned b0) := fun _ _ _ h => nomatch h

theorem readsLength_f1 {n : Nat} {i : Instr} (hi : (encode i).length = n) : ReadsLength n (f1 i) := by
  intro bs j rest h
  obtain ⟨-, rfl⟩ := f1_ok.mp h
  exact hi

theorem readsLength_f2 {n : Nat} {k : Byte → Instr} (hk : ∀ b, (encode (k b)).length = n) : ReadsLength n (f2 k) := by
  intro bs i rest h
  obtain ⟨b1, -, rfl⟩ := f2_ok.mp h
  exact hk b1

theorem readsLength_f3 {n : Nat} {k : Byte → Byte → Instr} (hk : ∀ b c, (encode (k b c)).length = n) :
    ReadsLength n (f3 k) := by
  intro bs i rest h
  obtain ⟨b1, b2, -, rfl⟩ := f3_ok.mp h
  exact hk b1 b2

theorem readsLength_decodeCol0 (b0 : Byte) : ReadsLength 2 (decodeCol0 b0) := by
  unfold decodeCol0
  split
  case h_17 => exact readsLength_unassigned _ _
  all_goals exact readsLength_f2 fun _ => rfl

theorem readsLength_decodeCol1 (b0 : Byte) : ReadsLength 2 (decodeCol1 b0) := by
  unfold decodeCol1
  split
  case h_17 => exact readsLength_unassigned _ _
  all_goals exact readsLength_f2 fun _ => rfl

theorem readsLength_decodeCol2 (b0 : Byte) : ReadsLength 2 (decodeCol2 b0) := by
  unfold decodeCol2
  split
  case h_15 => exact readsLength_unassigned _ _
  all_goals exact readsLength_f2 fun _ => rfl

theorem readsLength_decodeCol3 (b0 : Byte) : ReadsLength 2 (decodeCol3 b0) := by
  unfold decodeCol3
  split
  case h_17 => exact readsLength_unassigned _ _
  all_goals exact readsLength_f2 fun _ => rfl

/-- Column 4H has one instruction of two bytes, CALL IRR in row DH; every other row has three. -/
theorem readsLength_decodeCol4 (b0 : Byte) : ReadsLength (if hiNib b0 = 0xD then 2 else 3) (decodeCol4 b0) := by
  have ne_D {n : Nat} (hn : (hiNib b0).toNat = n) (h : n ≠ 0xD) : hiNib b0 ≠ 0xD := fun e => h (by rw [← hn, e]; rfl)
  generalize hlen : (if hiNib b0 = 0xD then 2 else 3) = len
  unfold decodeCol4
  split
  case h_11 h => rw [← hlen, if_pos (BitVec.eq_of_toNat_eq h)]; exact readsLength_f2 fun _ => rfl
  case h_13 => exact readsLength_unassigned _ _
  all_goals rw [← hlen, if_neg (ne_D ‹_› (by decide))]; exact readsLength_f3 fun _ _ => rfl

theorem readsLength_decodeCol5 (b0 : Byte) : ReadsLength 3 (decodeCol5 b0) := by
  unfold decodeCol5
  split
  case h_13 => exact readsLength_unassigned _ _
  all_goals exact readsLength_f3 fun _ _ => rfl

theorem readsLength_decodeCol6 (b0 : Byte) : ReadsLength 3 (decodeCol6 b0) := by
  unfold decodeCol6
  split
  case h_13 => exact readsLength_unassigned _ _
  all_goals exact readsLength_f3 fun _ _ => rfl

theorem readsLength_decodeCol7 (b0 : Byte) : ReadsLength 3 (decodeCol7 b0) := by
  unfold decodeCol7
  split
  case h_14 => exact readsLength_unassigned _ _
  all_goals exact readsLength_f3 fun _ _ => rfl

theorem readsLength_decodeColF (b0 : Byte) : ReadsLength 1 (decodeColF b0) := by
  unfold decodeColF
  split
  case h_13 => exact readsLength_unassigned _ _
  all_goals exact readsLength_f1 rfl

/-- Of the first bytes whose low nibble is 4H, only D4H has the high nibble DH. -/
theorem eq_D4_iff {b0 : Byte} (hlo : (loNib b0).toNat = 4) : b0 = 0xD4 ↔ hiNib b0 = 0xD := by
  constructor
  · rintro rfl; rfl
  · intro h; exact eq_of_nibbles (h := 0xD) (by rw [h]; rfl) hlo

theorem opLength_col4 {b0 : Byte} (hlo : (loNib b0).toNat = 4) : opLength b0 = if hiNib b0 = 0xD then 2 else 3 := by
  have hD4 := eq_D4_iff hlo
  by_cases h : hiNib b0 = 0xD
  · rw [if_pos h, hD4.mpr h]; rfl
  · have hne : b0 ≠ 0xD4 := mt hD4.mp h
    simp only [if_neg h, opLength, hlo, ne_eq, hne, not_false_eq_true, and_true]; rfl

/-- Outside column 4H the column alone gives the length. -/
theorem opLength_of_col {b0 : Byte} {n : Nat} (hlo : (loNib b0).toNat = n) (h4 : n ≠ 4) :
    opLength b0 = if n = 0xE ∨ n = 0xF then 1 else if n = 0xD ∨ 5 ≤ n ∧ n ≤ 7 then 3 else 2 := by
  have hD4 : b0 ≠ 0xD4 := by rintro rfl; exact h4 hlo.symm
  simp only [opLength, hlo, ne_eq, hD4, not_false_eq_true, and_true]
  split_ifs <;> omega

/-- The opcode map gives each first byte instructions of the length R107 reads off it. -/
theorem readsLength_reader (b0 : Byte) : ReadsLength (opLength b0) (reader b0) := by
  unfold reader
  dsimp only
  split
  case h_5 h => rw [opLength_col4 h]; exact readsLength_decodeCol4 b0
  case h_17 => exact readsLength_unassigned _ _
  all_goals rw [opLength_of_col ‹_› (by decide)]
  case h_1 => exact readsLength_decodeCol0 b0
  case h_2 => exact readsLength_decodeCol1 b0
  case h_3 => exact readsLength_decodeCol2 b0
  case h_4 => exact readsLength_decodeCol3 b0
  case h_6 => exact readsLength_decodeCol5 b0
  case h_7 => exact readsLength_decodeCol6 b0
  case h_8 => exact readsLength_decodeCol7 b0
  case h_14 => exact readsLength_f3 fun _ _ => rfl
  case h_15 => exact readsLength_f1 rfl
  case h_16 => exact readsLength_decodeColF b0
  all_goals exact readsLength_f2 fun _ => rfl

theorem length_encode_of_decode {b0 : Byte} {bs rest : List Byte} {i : Instr} (h : decode (b0 :: bs) = .ok (i, rest)) :
    (encode i).length = opLength b0 := readsLength_reader b0 bs i rest h

namespace Machine

/-! ## What a step can be -/

/-- A state whose first turn is taken off the schedule. -/
def State.tailInputs (s : State) : State := { s with inputs := s.inputs.tail }

theorem step_of_cpuTurn {s : State} (h : s.cpuTurn = true) : step s = cpuStep s.tailInputs := by
  unfold step State.tailInputs
  split
  · next e => rw [e]; exact congrArg cpuStep (by rw [List.tail_nil, ← e])
  · next e => rw [e]; rfl
  · next e => simp [State.cpuTurn, e] at h

theorem step_of_env {s : State} {e : EnvEvent} {rest : List Input} (h : s.inputs = .env e :: rest) :
    step s = environment e s.tailInputs := by
  unfold step State.tailInputs
  rw [h]; rfl

/-- The next turn is the CPU's or the environment's. -/
theorem cpuTurn_or_env (s : State) : s.cpuTurn = true ∨ ∃ e rest, s.inputs = .env e :: rest := by
  unfold State.cpuTurn
  match s.inputs with
  | [] => exact .inl rfl
  | .cpu :: _ => exact .inl rfl
  | .env e :: rest => exact .inr ⟨e, rest, rfl⟩

theorem fetchInstr_of_decode {s : State} {i : Instr} {rest : List Byte} (h : decode s.fetchBytes = .ok (i, rest)) :
    s.fetchInstr = .ok i := by
  unfold State.fetchInstr; rw [h]

theorem cpuStep_of_fetch {s : State} {i : Instr} (hr : s.runState = .run) (hf : s.fetchInstr = .ok i) :
    cpuStep s = exec i s.advance := by
  simp only [cpuStep, hr, hf]

/-- A running CPU that goes on has executed the instruction it fetched. -/
theorem cpuStep_run_next {s t : State} (hr : s.runState = .run) (h : cpuStep s = .next t) :
    ∃ i, s.fetchInstr = .ok i ∧ exec i s.advance = .next t := by
  simp only [cpuStep, hr] at h
  split at h
  · next i hf => exact ⟨i, hf, h⟩
  · cases h

/-- The PC the instruction sees is past all the bytes of its encoding. -/
theorem advance_of_decode {s : State} {i : Instr} {rest : List Byte} (h : decode s.fetchBytes = .ok (i, rest)) :
    s.advance = { s with pc := s.pc + BitVec.ofNat 16 (encode i).length } := by
  rw [length_encode_of_decode h]; rfl

/-- Settles O6: the CPU's turn runs what it fetched, and the encoding of what is decoded is as long as its first byte says. -/
theorem stepRunsDecoded : Obligations.StepRunsDecoded := by
  intro s i rest hr hturn hdec
  have hdec' : decode s.tailInputs.fetchBytes = .ok (i, rest) := hdec
  calc step s = cpuStep s.tailInputs := step_of_cpuTurn hturn
    _ = exec i s.tailInputs.advance := cpuStep_of_fetch hr (fetchInstr_of_decode hdec')
    _ = exec i { s with pc := s.pc + BitVec.ofNat 16 (encode i).length, inputs := s.inputs.tail } := by
      rw [advance_of_decode hdec']; rfl

end Machine

end Sys2Proof

namespace Sys2Proof

/-- A set bit of a byte with one bit written was set before, or is the bit written. -/
theorem getLsbD_of_setBit {b : Byte} {i j : Nat} {v : Bool} (h : (setBit b i v).getLsbD j = true) :
    b.getLsbD j = true ∨ j = i ∧ v = true := by
  by_cases hi : i < 8
  · rw [getLsbD_setBit _ _ _ _ hi] at h
    split at h
    · next hj => exact .inr ⟨hj, h⟩
    · exact .inl h
  · rw [setBit_of_ge _ _ _ (Nat.le_of_not_lt hi)] at h
    exact .inl h

namespace Machine

/-- The pending bits a RESET event may draw are those of the part's sources (60_exceptions.md R281). -/
theorem lt_of_getLsbD_and_sourceMask {b : Byte} {n k : Nat} (h : (b &&& sourceMask n).getLsbD k = true) : k < n := by
  rw [BitVec.getLsbD_and, Bool.and_eq_true, sourceMask, BitVec.getLsbD_ofNat, Nat.testBit_two_pow_sub_one] at h
  simpa using (Bool.and_eq_true_iff.mp h.2).2

/-! ## What the named operations leave alone -/

/-- From `s` to `t` the part, the modes, the Watch-Dog, the requests, `prevNop`, the schedule and the index of the free values
are the same, and memories in canonical form stay so: only registers, memory bytes, the PC and the write history moved. -/
structure State.KeepsControl (s t : State) : Prop where
  chip : t.chip = s.chip
  prog : memWf s.prog = true → memWf t.prog = true
  data : memWf s.data = true → memWf t.data = true
  runState : t.runState = s.runState
  wdtEnabled : t.wdtEnabled = s.wdtEnabled
  wdtInHalt : t.wdtInHalt = s.wdtInHalt
  wdtCount : t.wdtCount = s.wdtCount
  pending : t.pending = s.pending
  prevNop : t.prevNop = s.prevNop
  inputs : t.inputs = s.inputs
  time : t.time = s.time

theorem State.KeepsControl.refl (s : State) : s.KeepsControl s := ⟨rfl, id, id, rfl, rfl, rfl, rfl, rfl, rfl, rfl, rfl⟩

theorem State.KeepsControl.trans {s t u : State} (h1 : s.KeepsControl t) (h2 : t.KeepsControl u) : s.KeepsControl u where
  chip := h2.chip.trans h1.chip
  prog := h2.prog ∘ h1.prog
  data := h2.data ∘ h1.data
  runState := h2.runState.trans h1.runState
  wdtEnabled := h2.wdtEnabled.trans h1.wdtEnabled
  wdtInHalt := h2.wdtInHalt.trans h1.wdtInHalt
  wdtCount := h2.wdtCount.trans h1.wdtCount
  pending := h2.pending.trans h1.pending
  prevNop := h2.prevNop.trans h1.prevNop
  inputs := h2.inputs.trans h1.inputs
  time := h2.time.trans h1.time

theorem keepsControl_pc (s : State) (a : Word) : s.KeepsControl { s with pc := a } :=
  ⟨rfl, id, id, rfl, rfl, rfl, rfl, rfl, rfl, rfl, rfl⟩

theorem keepsControl_imr (s : State) (v : Byte) : s.KeepsControl { s with imr := v } :=
  ⟨rfl, id, id, rfl, rfl, rfl, rfl, rfl, rfl, rfl, rfl⟩

theorem keepsControl_flags (s : State) (v : Byte) : s.KeepsControl { s with flags := v } :=
  ⟨rfl, id, id, rfl, rfl, rfl, rfl, rfl, rfl, rfl, rfl⟩

theorem keepsControl_rp (s : State) (v : Byte) : s.KeepsControl { s with rp := v } :=
  ⟨rfl, id, id, rfl, rfl, rfl, rfl, rfl, rfl, rfl, rfl⟩

theorem keepsControl_prog (s : State) (a : Word) (v : Byte) :
    s.KeepsControl { s with prog := memWrite s.prog a.toNat v } :=
  ⟨rfl, fun h => memWf_memWrite _ _ h a.isLt, id, rfl, rfl, rfl, rfl, rfl, rfl, rfl, rfl⟩

theorem keepsControl_data (s : State) (a : Word) (v : Byte) :
    s.KeepsControl { s with data := memWrite s.data a.toNat v } :=
  ⟨rfl, id, fun h => memWf_memWrite _ _ h a.isLt, rfl, rfl, rfl, rfl, rfl, rfl, rfl, rfl⟩

theorem keepsControl_advance (s : State) : s.KeepsControl s.advance := keepsControl_pc s _

theorem keepsControl_jump (s : State) (a : Word) : s.KeepsControl (s.jump a) := keepsControl_pc s a

theorem keepsControl_store (s : State) (l : RegLoc) (v : Byte) : s.KeepsControl (s.store l v) := by
  constructor <;> simp

theorem keepsControl_setSp (s : State) (a : Word) : s.KeepsControl (s.setSp a) := by
  constructor <;> simp

/-- A register written and then the flags, as every instruction of the ALU does. -/
theorem keepsControl_store_flags (s : State) (l : RegLoc) (v f : Byte) :
    s.KeepsControl { s.store l v with flags := f } := (keepsControl_store s l v).trans (keepsControl_flags _ f)

theorem keepsControl_writeReg {s t : State} {a v : Byte} (h : s.writeReg a v = .ok t) : s.KeepsControl t := by
  obtain ⟨-, rfl⟩ := writeReg_ok.mp h
  exact keepsControl_store s _ v

theorem keepsControl_writeProg {s t : State} {a : Word} {v : Byte} (h : s.writeProg a v = .ok t) : s.KeepsControl t := by
  obtain ⟨-, -, rfl⟩ := writeProg_ok.mp h
  exact keepsControl_prog s a v

theorem keepsControl_writeData {s t : State} {a : Word} {v : Byte} (h : s.writeData a v = .ok t) : s.KeepsControl t := by
  obtain ⟨-, rfl⟩ := writeData_ok.mp h
  exact keepsControl_data s a v

theorem keepsControl_stackWrite {s t : State} {a : Word} {v : Byte} (h : s.stackWrite a v = .ok t) :
    s.KeepsControl t := by
  obtain ⟨-, -, rfl⟩ | ⟨-, -, rfl⟩ := stackWrite_ok.mp h
  · exact keepsControl_data s a v
  · exact keepsControl_store s _ v

theorem keepsControl_push8 {s t : State} {v : Byte} (h : s.push8 v = .ok t) : s.KeepsControl t :=
  (keepsControl_setSp s _).trans (keepsControl_stackWrite (push8_ok.mp h))

theorem keepsControl_push16 {s t : State} {w : Word} (h : s.push16 w = .ok t) : s.KeepsControl t := by
  obtain ⟨u, hhi, hlo⟩ := push16_ok.mp h
  exact (keepsControl_setSp s _).trans ((keepsControl_stackWrite hhi).trans (keepsControl_stackWrite hlo))

theorem keepsControl_pop8 {s t : State} {k : ReadSlot} {v : Byte} (h : s.pop8 k = .ok (v, t)) : s.KeepsControl t := by
  obtain ⟨-, rfl⟩ := pop8_ok.mp h
  exact keepsControl_setSp s _

theorem keepsControl_pop16 {s t : State} {kh kl : ReadSlot} {w : Word} (h : s.pop16 kh kl = .ok (w, t)) :
    s.KeepsControl t := by
  obtain ⟨hi, lo, -, -, hr⟩ := pop16_ok.mp h
  cases hr
  exact keepsControl_setSp s _

theorem keepsControl_call {s u : State} {a : Word} (h : s.call a = .ok u) : s.KeepsControl u := by
  obtain ⟨p, hp, rfl⟩ := call_ok.mp h
  exact (keepsControl_push16 hp).trans (keepsControl_jump p a)

theorem keepsControl_leaveInterrupt {s t : State} (h : s.leaveInterrupt = .ok t) : s.KeepsControl t := by
  obtain ⟨f, s1, w, s2, hf, hw, rfl⟩ := leaveInterrupt_ok.mp h
  exact (keepsControl_pop8 hf).trans ((keepsControl_flags s1 f).trans
    ((keepsControl_pop16 hw).trans ((keepsControl_pc s2 w).trans (keepsControl_imr _ _))))

theorem keepsControl_incPointers {s t : State} {n m : Nibble} {ra : Byte} {a : Word}
    (h : s.incPointers n m ra a = .ok t) : s.KeepsControl t := by
  obtain ⟨s1, s2, h1, h2, h3⟩ := incPointers_ok.mp h
  exact (keepsControl_writeReg h1).trans ((keepsControl_writeReg h2).trans (keepsControl_writeReg h3))

/-! ## Instructions that only retire -/

/-- `t` is `s` with registers, memory bytes, PC or write history moved, and then retired. -/
def State.Retires (s t : State) : Prop := ∃ u, s.KeepsControl u ∧ t = u.retire

theorem retires_finish {s t : State} {r : Res State} (hr : ∀ u, r = .ok u → s.KeepsControl u) (h : finish r = .next t) :
    s.Retires t := by
  obtain ⟨u, hu, rfl⟩ := finish_next.mp h
  exact ⟨u, hr u hu, rfl⟩

theorem retires_finish_ok {s t u : State} (hu : s.KeepsControl u) (h : finish (.ok u) = .next t) : s.Retires t := by
  cases h
  exact ⟨u, hu, rfl⟩

theorem alu2_retires {f : Byte → Byte → Bool → Byte × FlagUpd} {dst : Place} {src : Source} {s t : State}
    (h : alu2 f dst src s = .next t) : s.Retires t := by
  obtain ⟨a, v, d, -, -, -, -, rfl⟩ := alu2_next.mp h
  exact ⟨_, keepsControl_store_flags s _ _ _, rfl⟩

theorem test2_retires {f : Byte → Byte → Byte × FlagUpd} {dst : Place} {src : Source} {s t : State}
    (h : test2 f dst src s = .next t) : s.Retires t := by
  obtain ⟨a, v, d, -, -, -, rfl⟩ := test2_next.mp h
  exact ⟨_, keepsControl_flags s _, rfl⟩

theorem alu1_retires {f : Byte → Bool → Byte × FlagUpd} {dst : Place} {s t : State}
    (h : alu1 f dst s = .next t) : s.Retires t := by
  obtain ⟨a, d, -, -, -, rfl⟩ := alu1_next.mp h
  exact ⟨_, keepsControl_store_flags s _ _ _, rfl⟩

theorem decimalAdjust_retires {dst : Place} {s t : State} (h : decimalAdjust dst s = .next t) : s.Retires t := by
  obtain ⟨a, d, row, -, -, -, -, rfl⟩ := decimalAdjust_next.mp h
  exact ⟨_, keepsControl_store_flags s _ _ _, rfl⟩

theorem aluPair_retires {f : Word → Word × FlagUpd} {p : Res Byte} {s t : State} (h : aluPair f p s = .next t) :
    s.Retires t := by
  obtain ⟨a, w, -, -, -, -, s1, s2, h1, h2, rfl⟩ := aluPair_next.mp h
  exact ⟨_, (keepsControl_writeReg h1).trans ((keepsControl_writeReg h2).trans (keepsControl_flags s2 _)), rfl⟩

theorem load_retires {dst : Place} {src : Source} {s t : State} (h : load dst src s = .next t) : s.Retires t := by
  obtain ⟨a, v, -, -, -, rfl⟩ := load_next.mp h
  exact ⟨_, keepsControl_store s _ v, rfl⟩

theorem setFlags_retires {u : FlagUpd} {s t : State} (h : setFlags u s = .next t) : s.Retires t :=
  ⟨_, keepsControl_flags s _, setFlags_next.mp h⟩

theorem pop_retires {dst : Place} {s t : State} (h : pop dst s = .next t) : s.Retires t := by
  obtain ⟨a, v, s1, u, -, -, hpop, hwrite, rfl⟩ := pop_next.mp h
  exact ⟨u, (keepsControl_pop8 hpop).trans (keepsControl_writeReg hwrite), rfl⟩

theorem push_retires {src : Place} {s t : State} (h : push src s = .next t) : s.Retires t := by
  obtain ⟨a, v, u, -, -, -, hpush, rfl⟩ := push_next.mp h
  exact ⟨u, keepsControl_push8 hpush, rfl⟩

theorem loadByte_retires {read : State → Word → Res Byte} {n m : Nibble} {s t : State}
    (h : loadByte read n m s = .next t) : s.Retires t := by
  obtain ⟨a, v, -, -, -, rfl⟩ := loadByte_next.mp h
  exact ⟨_, keepsControl_store s _ v, rfl⟩

theorem loadByteInc_retires {read : State → Word → Res Byte} {n m : Nibble} {s t : State}
    (h : loadByteInc read n m s = .next t) : s.Retires t := by
  obtain ⟨a, ra, v, s1, u, -, -, -, -, -, hwrite, hinc, rfl⟩ := loadByteInc_next.mp h
  exact ⟨u, (keepsControl_writeReg hwrite).trans (keepsControl_incPointers hinc), rfl⟩

theorem storeByte_retires {write : State → Word → Byte → Res State} {n m : Nibble} {s t : State}
    (hw : ∀ {a v u}, write s a v = .ok u → s.KeepsControl u) (h : storeByte write n m s = .next t) : s.Retires t := by
  obtain ⟨a, v, u, -, -, hwrite, rfl⟩ := storeByte_next.mp h
  exact ⟨u, hw hwrite, rfl⟩

theorem storeByteInc_retires {write : State → Word → Byte → Res State} {n m : Nibble} {s t : State}
    (hw : ∀ {a v u}, write s a v = .ok u → s.KeepsControl u) (h : storeByteInc write n m s = .next t) :
    s.Retires t := by
  obtain ⟨a, ra, v, s1, u, -, -, -, -, hwrite, hinc, rfl⟩ := storeByteInc_next.mp h
  exact ⟨u, (hw hwrite).trans (keepsControl_incPointers hinc), rfl⟩

theorem execLd_R_r_retires {dst : Byte} {src : Nibble} {s t : State} (h : execLd_R_r dst src s = .next t) :
    s.Retires t := by
  refine retires_finish (fun u hu => ?_) h
  split at hu
  · cases hu
  · obtain ⟨v, -, hwrite⟩ := bind_ok.mp hu
    exact keepsControl_writeReg hwrite

theorem execJp_IRR_retires {dst : RegOp} {s t : State} (h : execJp_IRR dst s = .next t) : s.Retires t := by
  refine retires_finish (fun u hu => ?_) h
  simp only [bind_ok, pure, Except.pure, Except.ok.injEq] at hu
  obtain ⟨p, -, a, -, rfl⟩ := hu
  exact keepsControl_jump s a

theorem execCall_IRR_retires {dst : RegOp} {s t : State} (h : execCall_IRR dst s = .next t) : s.Retires t := by
  refine retires_finish (fun u hu => ?_) h
  obtain ⟨p, -, hp⟩ := bind_ok.mp hu
  split at hp
  · cases hp
  · obtain ⟨a, -, hcall⟩ := bind_ok.mp hp
    exact keepsControl_call hcall

theorem execDjnz_r_RA_retires {r : Nibble} {dst : Byte} {s t : State} (h : execDjnz_r_RA r dst s = .next t) :
    s.Retires t := by
  refine retires_finish (fun u hu => ?_) h
  split at hu
  · cases hu
  · simp only [bind_ok, pure, Except.pure, Except.ok.injEq] at hu
    obtain ⟨x, -, s1, hwrite, rfl⟩ := hu
    refine (keepsControl_writeReg hwrite).trans ?_
    split
    · exact keepsControl_jump s1 _
    · exact .refl s1

theorem keepsControl_jumpIf (s : State) (c : Bool) (a : Word) : s.KeepsControl (if c then s.jump a else s) := by
  cases c
  · exact .refl s
  · exact keepsControl_jump s a

theorem execRet_retires {s t : State} (h : execRet s = .next t) : s.Retires t := by
  refine retires_finish (fun u hu => ?_) h
  simp only [bind_ok, pure, Except.pure, Except.ok.injEq] at hu
  obtain ⟨⟨a, s1⟩, hpop, rfl⟩ := hu
  exact (keepsControl_pop16 hpop).trans (keepsControl_jump s1 a)

/-- The instructions that move the run state, the Watch-Dog or `prevNop` (45_cpu_control.md R253, R254, R258 to R260). -/
def changesControl : Instr → Bool
  | .wdh => true
  | .wdt => true
  | .stop => true
  | .halt => true
  | .nop => true
  | _ => false

/-- Every other instruction moves registers, memory bytes, the PC and the write history, and retires. -/
theorem exec_retires {i : Instr} {s t : State} (hi : changesControl i = false) (h : exec i s = .next t) :
    s.Retires t := by
  cases i with
  | add_r_r | add_r_Ir | add_R_R | add_R_IR | add_R_IM | add_IR_IM | adc_r_r | adc_r_Ir | adc_R_R | adc_R_IR
  | adc_R_IM | adc_IR_IM | sub_r_r | sub_r_Ir | sub_R_R | sub_R_IR | sub_R_IM | sub_IR_IM | sbc_r_r | sbc_r_Ir
  | sbc_R_R | sbc_R_IR | sbc_R_IM | sbc_IR_IM | or_r_r | or_r_Ir | or_R_R | or_R_IR | or_R_IM | or_IR_IM | and_r_r
  | and_r_Ir | and_R_R | and_R_IR | and_R_IM | and_IR_IM | xor_r_r | xor_r_Ir | xor_R_R | xor_R_IR | xor_R_IM
  | xor_IR_IM => exact alu2_retires h
  | tcm_r_r | tcm_r_Ir | tcm_R_R | tcm_R_IR | tcm_R_IM | tcm_IR_IM | tm_r_r | tm_r_Ir | tm_R_R | tm_R_IR | tm_R_IM
  | tm_IR_IM | cp_r_r | cp_r_Ir | cp_R_R | cp_R_IR | cp_R_IM | cp_IR_IM => exact test2_retires h
  | dec_R | dec_IR | rlc_R | rlc_IR | inc_R | inc_IR | com_R | com_IR | rl_R | rl_IR | rrc_R | rrc_IR | sra_R | sra_IR
  | rr_R | rr_IR | inc_r => exact alu1_retires h
  | swap_R | swap_IR =>
    exact alu1_retires (f := fun d _ => swapCore d (Config.freeFlag s.time .v)) h
  | da_R | da_IR => exact decimalAdjust_retires h
  | decw_RR | decw_IR | incw_RR | incw_IR => exact aluPair_retires h
  | clr_R | clr_IR | ld_r_Ir | ld_Ir_r | ld_R_R | ld_R_IR | ld_R_IM | ld_IR_IM | ld_IR_R | ld_r_X | ld_X_r | ld_r_R
  | ld_r_IM => exact load_retires h
  | pop_R | pop_IR => exact pop_retires h
  | push_R | push_IR => exact push_retires h
  | rcf | scf | ccf => exact setFlags_retires h
  | ldc_r_Irr | lde_r_Irr => exact loadByte_retires h
  | ldci_Ir_Irr | ldei_Ir_Irr => exact loadByteInc_retires h
  | ldc_Irr_r => exact storeByte_retires keepsControl_writeProg h
  | lde_Irr_r => exact storeByte_retires keepsControl_writeData h
  | ldci_Irr_Ir => exact storeByteInc_retires keepsControl_writeProg h
  | ldei_Irr_Ir => exact storeByteInc_retires keepsControl_writeData h
  | ld_R_r => exact execLd_R_r_retires h
  | jp_IRR => exact execJp_IRR_retires h
  | call_IRR => exact execCall_IRR_retires h
  | call_DA => exact retires_finish (fun _ => keepsControl_call) h
  | djnz_r_RA => exact execDjnz_r_RA_retires h
  | jr_cc_RA | jp_cc_DA => exact retires_finish_ok (keepsControl_jumpIf s _ _) h
  | ret => exact execRet_retires h
  | iret => exact retires_finish (fun _ => keepsControl_leaveInterrupt) h
  | srp_IM => exact retires_finish_ok (keepsControl_rp s _) h
  | di | ei => exact retires_finish_ok (keepsControl_imr s _) h
  | wdh | wdt | stop | halt | nop => cases hi

theorem changesControl_iff {i : Instr} :
    changesControl i = true ↔ i = .wdh ∨ i = .wdt ∨ i = .stop ∨ i = .halt ∨ i = .nop := by
  constructor
  · intro h
    unfold changesControl at h
    split at h <;> simp at h ⊢
  · rintro (rfl | rfl | rfl | rfl | rfl) <;> rfl

/-- An instruction with a guard goes on exactly where the guard holds. -/
theorem finish_guarded_next {c : Bool} {u t : State} {e : Fault} :
    finish (if c then .ok u else .error e) = .next t ↔ c = true ∧ t = u.retire := by
  cases c with
  | false => simp
  | true => simpa using eq_comm

theorem execWdh_next {s t : State} : execWdh s = .next t ↔ s.chip.wdt = true ∧
    t = { s.withFlags s.freeZSV with wdtInHalt := s.wdtInHalt || s.wdtEnabled }.retire := finish_guarded_next

theorem execWdt_next {s t : State} : execWdt s = .next t ↔ s.chip.wdt = true ∧
    t = { s.withFlags s.freeZSV with wdtEnabled := true, wdtCount := 0 }.retire := finish_guarded_next

theorem execStop_next {s t : State} :
    execStop s = .next t ↔ s.prevNop = true ∧ t = { s with runState := .stop }.retire := finish_guarded_next

theorem execHalt_next {s t : State} :
    execHalt s = .next t ↔ s.prevNop = true ∧ t = { s with runState := .halt }.retire := finish_guarded_next

theorem execNop_next {s t : State} : execNop s = .next t ↔ t = { s.retire with prevNop := true } := by
  simp [execNop, eq_comm]

/-! ## The invariant -/

theorem State.KeepsControl.inv {s t : State} (h : s.KeepsControl t) (hs : s.Inv) : t.Inv where
  chip := by rw [h.chip]; exact hs.chip
  prog := h.prog hs.prog
  data := h.data hs.data
  wdtPart := by rw [h.wdtEnabled, h.chip]; exact hs.wdtPart
  wdtHalt := by rw [h.wdtInHalt, h.wdtEnabled]; exact hs.wdtHalt
  wdtCount := by rw [h.wdtCount, h.chip]; exact hs.wdtCount
  pending := by rw [h.pending, h.chip]; exact hs.pending
  nop := by rw [h.prevNop, h.runState]; exact hs.nop

/-- What every step does: it leaves the part as it is and keeps the invariant. -/
def State.Preserves (s t : State) : Prop := t.chip = s.chip ∧ (s.Inv → t.Inv)

theorem State.Preserves.refl (s : State) : s.Preserves s := ⟨rfl, id⟩

theorem State.Preserves.trans {s t u : State} (h1 : s.Preserves t) (h2 : t.Preserves u) : s.Preserves u :=
  ⟨h2.1.trans h1.1, h2.2 ∘ h1.2⟩

theorem State.KeepsControl.preserves {s t : State} (h : s.KeepsControl t) : s.Preserves t := ⟨h.chip, h.inv⟩

theorem preserves_tailInputs (s : State) : s.Preserves s.tailInputs := ⟨rfl, fun hs => { hs with }⟩

theorem preserves_retire (s : State) : s.Preserves s.retire := ⟨rfl, fun hs => { hs with nop := nofun }⟩

theorem State.Retires.preserves {s t : State} (h : s.Retires t) : s.Preserves t := by
  obtain ⟨u, hu, rfl⟩ := h
  exact hu.preserves.trans (preserves_retire u)

/-- A run state entered by an instruction that retires: `prevNop` is clear in it (10_state.md R45). -/
theorem preserves_runState_retire (s : State) (r : RunState) : s.Preserves { s with runState := r }.retire :=
  ⟨rfl, fun hs => { hs with nop := nofun }⟩

/-- WDH: halt counting is on afterwards only if it was, or the Watch-Dog was enabled (45_cpu_control.md R259). -/
theorem execWdh_preserves {s t : State} (h : execWdh s = .next t) : s.Preserves t := by
  obtain ⟨-, rfl⟩ := execWdh_next.mp h
  refine ⟨rfl, fun hs => { hs with wdtHalt := fun hHalt => ?_, nop := nofun }⟩
  obtain hHalt | hEnabled := Bool.or_eq_true_iff.mp hHalt
  · exact hs.wdtHalt hHalt
  · exact hEnabled

/-- WDT: the part has a Watch-Dog, and its count restarts (45_cpu_control.md R260). -/
theorem execWdt_preserves {s t : State} (h : execWdt s = .next t) : s.Preserves t := by
  obtain ⟨hpart, rfl⟩ := execWdt_next.mp h
  exact ⟨rfl, fun hs =>
    { hs with wdtPart := fun _ => hpart, wdtHalt := fun _ => rfl, wdtCount := .inl rfl, nop := nofun }⟩

/-- NOP sets `prevNop`, so it keeps the invariant only where an instruction can execute: in RUN. -/
theorem execNop_preserves {s t : State} (hrun : s.runState = .run) (h : execNop s = .next t) : s.Preserves t := by
  obtain rfl := execNop_next.mp h
  exact ⟨rfl, fun hs => { hs with nop := fun _ => hrun }⟩

theorem exec_preserves {i : Instr} {s t : State} (hrun : s.runState = .run) (h : exec i s = .next t) :
    s.Preserves t := by
  by_cases hi : changesControl i = true
  · obtain rfl | rfl | rfl | rfl | rfl := changesControl_iff.mp hi
    · exact execWdh_preserves h
    · exact execWdt_preserves h
    · obtain ⟨-, rfl⟩ := execStop_next.mp h
      exact preserves_runState_retire s .stop
    · obtain ⟨-, rfl⟩ := execHalt_next.mp h
      exact preserves_runState_retire s .halt
    · exact execNop_preserves hrun h
  · exact (exec_retires (Bool.not_eq_true _ ▸ hi) h).preserves

theorem takeInterrupt_next {n : Nat} {s t : State} : takeInterrupt n s = .next t ↔ s.enterInterrupt n = .ok t := by
  unfold takeInterrupt
  split <;> simp_all

/-- A pending bit may be cleared, or set for a source the part has (60_exceptions.md R283, R285). -/
theorem preserves_setPending (s : State) {n : Nat} {v : Bool} (hn : v = true → n < s.chip.nIrq) :
    s.Preserves { s with pending := setBit s.pending n v } := by
  refine ⟨rfl, fun hs => { hs with pending := fun k hk => ?_ }⟩
  obtain hold | ⟨rfl, hv⟩ := getLsbD_of_setBit hk
  · exact hs.pending k hold
  · exact hn hv

/-- Interrupt entry: two pushes from the state with the request taken off, then RUN with `prevNop` clear
(60_exceptions.md R285). -/
theorem takeInterrupt_preserves {n : Nat} {s t : State} (h : takeInterrupt n s = .next t) : s.Preserves t := by
  obtain ⟨s1, s2, hpc, hflags, rfl⟩ := enterInterrupt_ok.mp (takeInterrupt_next.mp h)
  have hpushed : s.Preserves s2 := (preserves_setPending s (n := n) (v := false) nofun).trans
    ((keepsControl_push16 hpc).trans (keepsControl_push8 hflags)).preserves
  exact hpushed.trans ⟨rfl, fun hs2 => { hs2 with nop := nofun }⟩

theorem haltStep_preserves {s t : State} (h : haltStep s = .next t) : s.Preserves t := by
  unfold haltStep at h
  split at h
  · exact takeInterrupt_preserves h
  · cases h; exact .refl s

theorem cpuStep_preserves {s t : State} (h : cpuStep s = .next t) : s.Preserves t := by
  match hr : s.runState with
  | .run =>
    obtain ⟨i, -, hexec⟩ := cpuStep_run_next hr h
    exact (keepsControl_advance s).preserves.trans (exec_preserves hr hexec)
  | .halt =>
    simp only [cpuStep, hr] at h
    exact haltStep_preserves h
  | .stop =>
    simp only [cpuStep, hr, stopStep] at h
    cases h; exact .refl s

theorem State.resetEvent_pending (s : State) :
    s.resetEvent.pending = s.resetValue 481 &&& sourceMask s.chip.nIrq := by simp only [State.resetEvent]

/-- The RESET event clears the Watch-Dog and `prevNop`, and draws canonical data memory and pending bits of the part's
sources (70_reset_and_hazards.md R310; log 12). -/
theorem preserves_resetEvent (s : State) : s.Preserves s.resetEvent := by
  refine ⟨s.resetEvent_chip, fun hs => ?_⟩
  exact {
    chip := by rw [State.resetEvent_chip]; exact hs.chip
    prog := by rw [State.resetEvent_prog]; exact hs.prog
    data := by rw [State.resetEvent_data]; exact memWf_memOfCells _
    wdtPart := by simp
    wdtHalt := by simp
    wdtCount := .inl s.resetEvent_wdtCount
    pending := fun k hk => by
      rw [State.resetEvent_pending] at hk
      rw [State.resetEvent_chip]; exact lt_of_getLsbD_and_sourceMask hk
    nop := fun _ => s.resetEvent_runState }

/-- A tick that does not reach the terminal count leaves the count below it (60_exceptions.md R294). -/
theorem tickWatchDog_preserves {s t : State} (h : tickWatchDog s = .next t) : s.Preserves t := by
  cases h
  split_ifs with hcounting hterminal
  · exact preserves_resetEvent s
  · exact ⟨rfl, fun hs => { hs with wdtCount := .inr (Nat.lt_of_not_le hterminal) }⟩
  · exact .refl s

theorem environment_preserves {e : EnvEvent} {s t : State} (h : environment e s = .next t) : s.Preserves t := by
  cases e with
  | request n =>
    cases h
    split_ifs with hn
    · exact preserves_setPending s fun _ => hn
    · exact .refl s
  | accept n =>
    simp only [environment, acceptRequest] at h
    split at h
    · exact takeInterrupt_preserves h
    · cases h; exact .refl s
  | wdtTick => exact tickWatchDog_preserves h
  | reset => cases h; exact preserves_resetEvent s

/-- Settles O10: the turn comes off the schedule, then the CPU or the environment acts. -/
theorem stepKeepsInv : Obligations.StepKeepsInv := by
  intro s t h
  refine (preserves_tailInputs s).trans ?_
  obtain hcpu | ⟨e, rest, henv⟩ := cpuTurn_or_env s
  · rw [step_of_cpuTurn hcpu] at h
    exact cpuStep_preserves h
  · rw [step_of_env henv] at h
    exact environment_preserves h

end Machine

end Sys2Proof

/-! PROOFS of the family 10_state.md: the memories' one form, the register file, the stack, clashing operands, and the frame of
every instruction. -/

namespace Sys2Proof.Machine

/-! ## Memories (10_state.md R39, R40; log 8) -/

theorem memRead_memInsert (m : Mem) (a b : Nat) (v : Byte) :
    memRead (memInsert m a v) b = if b = a then v else memRead m b := by
  induction m with
  | nil => rfl
  | cons c m ih =>
    obtain ⟨k, w⟩ := c
    unfold memInsert
    by_cases hlt : a < k
    · rw [if_pos hlt]; rfl
    by_cases hak : a = k
    · subst hak
      rw [if_neg hlt, if_pos rfl]
      simp only [memRead_cons]
      split_ifs <;> rfl
    · rw [if_neg hlt, if_neg hak, memRead_cons, memRead_cons, ih]
      by_cases hb : b = k
      · rw [if_pos hb, if_pos hb, if_neg (by omega)]
      · rw [if_neg hb, if_neg hb]

theorem memRead_memErase {lo : Nat} {m : Mem} (h : memSorted lo m = true) (a b : Nat) :
    memRead (memErase m a) b = if b = a then memBlank else memRead m b := by
  induction m generalizing lo with
  | nil => simp [memErase]
  | cons c m ih =>
    obtain ⟨k, w⟩ := c
    obtain ⟨-, -, -, hm⟩ := (memSorted_cons lo k w m).mp h
    unfold memErase
    split_ifs with hk hb hb
    · exact memRead_of_lt hm (by omega)
    · rw [memRead_cons, if_neg (by omega)]
    · rw [memRead_cons, if_neg (by omega), ih hm, if_pos hb]
    · rw [memRead_cons, memRead_cons, ih hm, if_neg hb]

/-- A byte written is read back, and every other byte is as before (20_memory.md R68). -/
theorem memRead_memWrite {m : Mem} (h : memWf m = true) (a b : Nat) (v : Byte) :
    memRead (memWrite m a v) b = if b = a then v else memRead m b := by
  unfold memWrite
  split
  · next hv => rw [memRead_memErase h, hv]
  · exact memRead_memInsert m a b v

/-- What a canonical memory does not leave blank stands at its first entry or later. -/
theorem le_of_memRead_ne {lo a : Nat} {m : Mem} (h : memSorted lo m = true) (ha : memRead m a ≠ memBlank) : lo ≤ a :=
  Nat.le_of_not_lt fun hlt => ha (memRead_of_lt h hlt)

/-- Of two canonical memories that read the same, neither has its first entry below the other's. -/
theorem head_le_of_memRead_eq {lo k j : Nat} {v w : Byte} {m n : Mem} (hm : memSorted lo ((k, v) :: m) = true)
    (hn : memSorted lo ((j, w) :: n) = true)
    (h : ∀ a, a < 65536 → memRead ((k, v) :: m) a = memRead ((j, w) :: n) a) : j ≤ k := by
  obtain ⟨-, hk, hv, -⟩ := (memSorted_cons lo k v m).mp hm
  obtain ⟨-, hn⟩ := (memSorted_cons lo j w n).mp hn
  have hread : memRead ((j, w) :: n) k = v := by rw [← h k hk, memRead_cons, if_pos rfl]
  exact le_of_memRead_ne ((memSorted_cons j j w n).mpr ⟨Nat.le_refl j, hn⟩) (by rw [hread]; exact hv)

/-- A canonical memory with an entry does not read as the empty one. -/
theorem memRead_cons_ne_nil {lo k : Nat} {v : Byte} {m : Mem} (hm : memSorted lo ((k, v) :: m) = true)
    (h : ∀ a, a < 65536 → memRead ((k, v) :: m) a = memRead [] a) : False := by
  obtain ⟨-, hk, hv, -⟩ := (memSorted_cons lo k v m).mp hm
  have hread := h k hk
  rw [memRead_cons, if_pos rfl] at hread
  exact hv hread

theorem eq_of_memRead_eq {lo : Nat} {m n : Mem} (hm : memSorted lo m = true) (hn : memSorted lo n = true)
    (h : ∀ a, a < 65536 → memRead m a = memRead n a) : m = n := by
  induction m generalizing lo n with
  | nil =>
    match n with
    | [] => rfl
    | (j, w) :: n => exact (memRead_cons_ne_nil hn fun a ha => (h a ha).symm).elim
  | cons c m ih =>
    obtain ⟨k, v⟩ := c
    match n with
    | [] => exact (memRead_cons_ne_nil hm h).elim
    | (j, w) :: n =>
      obtain rfl : k = j := Nat.le_antisymm (head_le_of_memRead_eq hn hm fun a ha => (h a ha).symm)
        (head_le_of_memRead_eq hm hn h)
      obtain ⟨-, hk, -, hm⟩ := (memSorted_cons lo k v m).mp hm
      obtain ⟨-, -, -, hn⟩ := (memSorted_cons lo k w n).mp hn
      have hvw : v = w := by simpa [memRead_cons] using h k hk
      have htail : ∀ a, a < 65536 → memRead m a = memRead n a := by
        intro a ha
        by_cases hak : a = k
        · rw [memRead_of_lt hm (by omega), memRead_of_lt hn (by omega)]
        · simpa [memRead_cons, hak] using h a ha
      rw [hvw, ih hm hn htail]

/-- Settles O19, by induction on the two lists: their first entries stand at one address and hold one byte. -/
theorem memoryCanonical : Obligations.MemoryCanonical := fun _ _ => eq_of_memRead_eq

/-! ## Reset (10_state.md R50) -/

/-- Settles O9, field by field: nothing is listed, pending or enabled after reset. -/
theorem resetInv : Obligations.ResetInv where
  chip := by decide
  prog := memWf_reset.1
  data := memWf_reset.2
  wdtPart := nofun
  wdtHalt := nofun
  wdtCount := .inl rfl
  pending := fun n hn => by simp [State.reset] at hn
  nop := fun _ => rfl

/-! ## prev_nop (10_state.md R45) -/

theorem State.Retires.prevNop {s t : State} (h : s.Retires t) : t.prevNop = false := by
  obtain ⟨u, -, rfl⟩ := h
  exact u.retire_prevNop

theorem exec_prevNop_of_ne {i : Instr} {s t : State} (hi : i ≠ .nop) (h : exec i s = .next t) : t.prevNop = false := by
  by_cases hc : changesControl i = true
  · obtain rfl | rfl | rfl | rfl | rfl := changesControl_iff.mp hc
    · obtain ⟨-, rfl⟩ := execWdh_next.mp h; exact State.retire_prevNop _
    · obtain ⟨-, rfl⟩ := execWdt_next.mp h; exact State.retire_prevNop _
    · obtain ⟨-, rfl⟩ := execStop_next.mp h; exact State.retire_prevNop _
    · obtain ⟨-, rfl⟩ := execHalt_next.mp h; exact State.retire_prevNop _
    · exact absurd rfl hi
  · exact (exec_retires (Bool.not_eq_true _ ▸ hc) h).prevNop

theorem exec_prevNop_iff {i : Instr} {s t : State} (h : exec i s = .next t) : t.prevNop = true ↔ i = .nop := by
  constructor
  · intro ht
    by_contra hi
    rw [exec_prevNop_of_ne hi h] at ht
    cases ht
  · rintro rfl
    obtain rfl := execNop_next.mp h
    rfl

theorem takeInterrupt_prevNop {n : Nat} {s t : State} (h : takeInterrupt n s = .next t) : t.prevNop = false := by
  obtain ⟨s1, s2, -, -, rfl⟩ := enterInterrupt_ok.mp (takeInterrupt_next.mp h)
  rfl

/-- Settles O12: `retire` clears `prevNop`, and NOP alone sets it after retiring. -/
theorem previousNop : Obligations.PreviousNop :=
  ⟨fun _ _ _ => exec_prevNop_iff, fun _ _ _ => takeInterrupt_prevNop, State.resetEvent_prevNop⟩

/-! ## The register file (10_state.md R20 to R26) -/

theorem inBank_iff {s : State} {a : Byte} :
    s.inBank a = true ↔ hiNib a = 0 ∧ loNib s.rp ≠ 0 ∧ (loNib s.rp, loNib a) ∈ s.chip.bankImpl := by
  simp only [State.inBank, Bool.and_eq_true, bne_iff_ne, beq_iff_eq, List.contains_iff_mem]
  tauto

theorem inBank_eq_false_iff {s : State} {a : Byte} :
    s.inBank a = false ↔ ¬ (hiNib a = 0 ∧ loNib s.rp ≠ 0 ∧ (loNib s.rp, loNib a) ∈ s.chip.bankImpl) := by
  rw [← inBank_iff, Bool.not_eq_true]

theorem loc_of_inBank {s : State} {a : Byte} (h : s.inBank a = true) :
    s.loc a = .bank (bankIndex (loNib s.rp) (loNib a)) := if_pos h

theorem loc_of_not_inBank {s : State} {a : Byte} (h : s.inBank a = false) : s.loc a = bank0Loc a :=
  if_neg (Bool.eq_false_iff.mp h)

theorem absent_of_inBank {s : State} {a : Byte} (h : s.inBank a = true) : s.absent a = false := by
  simp [State.absent, h]

theorem absent_of_not_inBank {s : State} {a : Byte} (h : s.inBank a = false) :
    s.absent a = true ↔ a ∈ s.chip.absentRegs := by
  simp [State.absent, h]

theorem bankIndex_eq_iff {b r : Nibble} {i : Fin 240} :
    bankIndex b r = i ↔ i.val = (b.toNat - 1) * 16 + r.toNat := by
  rw [Fin.ext_iff, eq_comm]; rfl

/-- Two registers of expanded banks share no entry. -/
theorem bankIndex_inj {b c r q : Nibble} (hb : b ≠ 0) (hc : c ≠ 0) (h : bankIndex b r = bankIndex c q) :
    b = c ∧ r = q := by
  have hval : (b.toNat - 1) * 16 + r.toNat = (c.toNat - 1) * 16 + q.toNat := congrArg Fin.val h
  have hb' : b.toNat ≠ 0 := fun h0 => hb (BitVec.eq_of_toNat_eq h0)
  have hc' : c.toNat ≠ 0 := fun h0 => hc (BitVec.eq_of_toNat_eq h0)
  exact ⟨BitVec.eq_of_toNat_eq (by omega), BitVec.eq_of_toNat_eq (by omega)⟩

theorem bank0Loc_general {a : Byte} {i : Fin 236} (h : a.toNat = i.val + 4) : bank0Loc a = .gpr i := by
  unfold bank0Loc
  rw [dif_pos (by omega)]
  exact congrArg RegLoc.gpr (Fin.ext (by dsimp only; omega))

theorem bank0Loc_device {a : Byte} (h : a.toNat < 4 ∨ 0xF0 ≤ a.toNat ∧ a.toNat < 0xFB) : bank0Loc a = .device a := by
  have hne : ∀ c : Byte, 0xFB ≤ c.toNat → a ≠ c := by
    rintro c hc rfl
    omega
  unfold bank0Loc
  rw [dif_neg (by omega), if_neg (hne 0xFB (by decide)), if_neg (hne 0xFC (by decide)), if_neg (hne 0xFD (by decide)),
    if_neg (hne 0xFE (by decide)), if_neg (hne 0xFF (by decide))]

/-- The address a register of bank 0 has; an expanded bank's has none there. -/
def bank0Addr : RegLoc → Byte
  | .gpr i => BitVec.ofNat 8 (i.val + 4)
  | .bank _ => 0
  | .imr => 0xFB
  | .flags => 0xFC
  | .rp => 0xFD
  | .sph => 0xFE
  | .spl => 0xFF
  | .device a => a

theorem bank0Addr_bank0Loc (a : Byte) : bank0Addr (bank0Loc a) = a := by
  unfold bank0Loc
  split_ifs with hgen h h h h h
  · apply BitVec.eq_of_toNat_eq
    rw [bank0Addr, BitVec.toNat_ofNat]
    dsimp only
    omega
  exacts [h.symm, h.symm, h.symm, h.symm, h.symm, rfl]

theorem bank0Loc_ne_bank (a : Byte) (i : Fin 240) : bank0Loc a ≠ .bank i := by
  unfold bank0Loc
  split_ifs <;> nofun

theorem loc_injective (s : State) {a b : Byte} (h : s.loc a = s.loc b) : a = b := by
  cases ha : s.inBank a <;> cases hb : s.inBank b
  · rw [loc_of_not_inBank ha, loc_of_not_inBank hb] at h
    rw [← bank0Addr_bank0Loc a, h, bank0Addr_bank0Loc]
  · rw [loc_of_not_inBank ha, loc_of_inBank hb] at h
    exact absurd h (bank0Loc_ne_bank a _)
  · rw [loc_of_inBank ha, loc_of_not_inBank hb] at h
    exact absurd h.symm (bank0Loc_ne_bank b _)
  · rw [loc_of_inBank ha, loc_of_inBank hb] at h
    obtain ⟨hia, hbank, -⟩ := inBank_iff.mp ha
    obtain ⟨hib, -⟩ := inBank_iff.mp hb
    obtain ⟨-, hlo⟩ := bankIndex_inj hbank hbank (RegLoc.bank.inj h)
    rw [← nibbles_hiNib_loNib a, ← nibbles_hiNib_loNib b, hia, hib, hlo]

/-- Settles O15: bank 0's registers by their addresses, a bank's by the two nibbles, and no register is of both kinds. -/
theorem addressesDistinct : Obligations.AddressesDistinct := fun s _ _ => loc_injective s

/-- Every access to an address the part has is an access to the register it reaches (10_state.md R24). -/
theorem access_of_loc {s : State} {a : Byte} {l : RegLoc} (hp : s.absent a = false) (hl : s.loc a = l) (k : ReadSlot)
    (v : Byte) : s.readReg k a = .ok (s.valueAt k l) ∧ s.writeReg a v = .ok (s.store l v) := by
  subst hl
  exact ⟨readReg_ok.mpr ⟨hp, rfl⟩, writeReg_ok.mpr ⟨hp, rfl⟩⟩

/-- The five control registers exist on every part the spec admits, whatever bank is selected (10_state.md R37). -/
theorem absent_control {s : State} (hwf : s.chip.wf = true) {a : Byte}
    (ha : a = 0xFB ∨ a = 0xFC ∨ a = 0xFD ∨ a = 0xFE ∨ a = 0xFF) : s.absent a = false := by
  simp only [Chip.wf, Bool.and_eq_true, Bool.not_eq_true'] at hwf
  obtain ⟨⟨⟨⟨⟨⟨⟨⟨hFB, hFC⟩, hFD⟩, hFE⟩, hFF⟩, -⟩, -⟩, -⟩, -⟩ := hwf
  obtain rfl | rfl | rfl | rfl | rfl := ha <;> rw [absent_of_high s (by decide)] <;> assumption

/-- Settles O13: in each class of addresses, what `loc` and `absent` answer. -/
theorem registerAccess : Obligations.RegisterAccess := by
  intro s a v k b banked
  refine ⟨fun i hb hi => ?_, fun hb ha => ?_, fun i hb ha hi => ?_, fun hwf => ?_, fun hb ha hdev => ?_⟩
  · have hin : s.inBank a = true := inBank_iff.mpr hb
    exact access_of_loc (absent_of_inBank hin)
      ((loc_of_inBank hin).trans (congrArg RegLoc.bank (bankIndex_eq_iff.mpr hi))) k v
  · have habs := (absent_of_not_inBank (inBank_eq_false_iff.mpr hb)).mpr ha
    exact ⟨readReg_error.mpr ⟨habs, rfl⟩, writeReg_error.mpr ⟨habs, rfl⟩⟩
  · have hout := inBank_eq_false_iff.mpr hb
    exact access_of_loc (Bool.eq_false_iff.mpr (mt (absent_of_not_inBank hout).mp ha))
      ((loc_of_not_inBank hout).trans (bank0Loc_general hi)) k v
  · exact ⟨fun h => access_of_loc (absent_control hwf (by simp [h])) (loc_eq_imr.mpr h) k v,
      fun h => access_of_loc (absent_control hwf (by simp [h])) (loc_eq_flags.mpr h) k v,
      fun h => access_of_loc (absent_control hwf (by simp [h])) (loc_eq_rp.mpr h) k v,
      fun h => access_of_loc (absent_control hwf (by simp [h])) (loc_eq_sph.mpr h) k v,
      fun h => access_of_loc (absent_control hwf (by simp [h])) (loc_eq_spl.mpr h) k v⟩
  · have hout := inBank_eq_false_iff.mpr hb
    exact access_of_loc (Bool.eq_false_iff.mpr (mt (absent_of_not_inBank hout).mp ha))
      ((loc_of_not_inBank hout).trans (bank0Loc_device hdev)) k v

/-! ## SRP and the banks (10_state.md R22, R26) -/

theorem wrAddr_eq_ofNat (s : State) (n : Nibble) :
    s.wrAddr n = BitVec.ofNat 8 (16 * (s.rp.toNat / 16) + n.toNat) := by
  apply BitVec.eq_of_toNat_eq
  rw [State.wrAddr, nibbles_toNat, hiNib_toNat, BitVec.toNat_ofNat]
  omega

/-- For an address below 10H and a selected bank, `inBank` asks P_BANK_IMPL alone. -/
theorem inBank_low {s : State} {a : Byte} (ha : a.toNat < 0x10) :
    s.inBank a = true ↔ s.rp.toNat % 16 ≠ 0 ∧ (loNib s.rp, loNib a) ∈ s.chip.bankImpl := by
  have hhi : hiNib a = 0 := BitVec.eq_of_toNat_eq (by rw [hiNib_toNat]; exact Nat.div_eq_of_lt ha)
  have hlo : loNib s.rp ≠ 0 ↔ s.rp.toNat % 16 ≠ 0 := by
    rw [← loNib_toNat]
    exact not_congr ⟨fun h => by rw [h]; rfl, fun h => BitVec.eq_of_toNat_eq h⟩
  rw [inBank_iff, hlo]
  exact and_iff_right hhi

/-- Settles O16: `loc` under the new RP, for addresses from 10H up, of the selected bank, and of bank 0 below 10H. -/
theorem srpMovesWindow : Obligations.SrpMovesWindow := by
  intro s v t banked
  have hbank : ∀ a : Byte, a.toNat < 0x10 → (t.inBank a = true ↔ banked a) := fun a ha => inBank_low ha
  have hbank0 : ∀ a : Byte, a.toNat < 0x10 → ¬ banked a → t.loc a = bank0Loc a := fun a ha hb =>
    loc_of_not_inBank (Bool.eq_false_iff.mpr (mt (hbank a ha).mp hb))
  refine ⟨rfl, fun n k => ?_, fun a ha => ?_, fun a i ha hb hi => ?_, fun a i ha hb hi => ?_, fun a ha hb => ?_⟩
  · exact congrArg (t.readReg k) (wrAddr_eq_ofNat t n)
  · rw [loc_of_high t ha, loc_of_high s ha]
  · rw [loc_of_inBank ((hbank a ha).mpr hb)]
    refine congrArg RegLoc.bank (bankIndex_eq_iff.mpr ?_)
    rw [loNib_toNat, loNib_toNat, Nat.mod_eq_of_lt ha]
    exact hi
  · rw [hbank0 a ha hb, bank0Loc_general hi]
  · rw [hbank0 a (by omega) hb, bank0Loc_device (.inl ha)]

theorem readReg_congr {s t : State} {k : ReadSlot} {a : Byte} (hc : t.chip = s.chip) (hr : t.rp = s.rp)
    (hv : t.valueAt k (s.loc a) = s.valueAt k (s.loc a)) : t.readReg k a = s.readReg k a := by
  simp only [State.readReg, absent_congr hc hr, loc_congr hc hr, hv]

theorem valueAt_rp_of_ne (s : State) (k : ReadSlot) (r : Byte) {l : RegLoc} (h : l ≠ .rp) :
    { s with rp := r }.valueAt k l = s.valueAt k l := by
  cases l <;> first | rfl | exact absurd rfl h

/-- Under one and the same RP, a register other than the one stored in reads as before. -/
theorem valueAt_store_rp_of_ne (s : State) (k : ReadSlot) (v r : Byte) {l l' : RegLoc} (h : l' ≠ l) :
    { s.store l v with rp := r }.valueAt k l' = { s with rp := r }.valueAt k l' := by
  by_cases hl : l' = .rp
  · rw [hl]; rfl
  · rw [valueAt_rp_of_ne _ k r hl, valueAt_rp_of_ne _ k r hl, State.valueAt_store_ne s k v h]

theorem readReg_store_rp_of_ne {s : State} {k : ReadSlot} {v r b : Byte} {l : RegLoc}
    (h : { s with rp := r }.loc b ≠ l) :
    { s.store l v with rp := r }.readReg k b = { s with rp := r }.readReg k b :=
  readReg_congr (s.store_chip l v) rfl (valueAt_store_rp_of_ne s k v r h)

/-- An address does not reach a register of an expanded bank that is not selected. -/
theorem loc_ne_bank_of_ne {s : State} {b : Byte} {c q : Nibble} (hc : c ≠ 0) (h : loNib s.rp ≠ c) :
    s.loc b ≠ .bank (bankIndex c q) := by
  cases hb : s.inBank b with
  | false => rw [loc_of_not_inBank hb]; exact bank0Loc_ne_bank b _
  | true =>
    rw [loc_of_inBank hb]
    obtain ⟨-, hsel, -⟩ := inBank_iff.mp hb
    exact fun he => h (bankIndex_inj hsel hc (RegLoc.bank.inj he)).1

/-- Settles O17: the register written and the register read are never the same. -/
theorem banksApart : Obligations.BanksApart := by
  intro s t a v rp b k hw
  obtain ⟨-, rfl⟩ := writeReg_ok.mp hw
  refine ⟨fun ha hne => readReg_store_rp_of_ne ?_, fun ha hb => readReg_store_rp_of_ne ?_⟩
  · obtain ⟨-, hsel, -⟩ := inBank_iff.mp ha
    rw [loc_of_inBank ha]
    exact loc_ne_bank_of_ne hsel hne
  · rw [loc_of_inBank hb, loc_of_not_inBank ha]
    exact (bank0Loc_ne_bank a _).symm

end Sys2Proof.Machine


namespace Sys2Proof

/-! ## Byte arithmetic of stack addresses (10_state.md R31) -/

theorem loByte_add (a b : Word) : loByte (a + b) = loByte a + loByte b := by
  apply BitVec.eq_of_toNat_eq
  simp only [BitVec.toNat_add, loByte_toNat]
  omega

theorem loByte_sub (a b : Word) : loByte (a - b) = loByte a - loByte b := by
  apply BitVec.eq_of_toNat_eq
  simp only [BitVec.toNat_sub, loByte_toNat]
  omega

theorem loByte_ofNat (n : Nat) : loByte (BitVec.ofNat 16 n) = BitVec.ofNat 8 n := by
  apply BitVec.eq_of_toNat_eq
  simp only [loByte_toNat, BitVec.toNat_ofNat]
  omega

namespace Machine

/-! ## The cells of the stack (10_state.md R31, R32) -/

theorem stackAddr_congr {s t : State} (hc : t.chip = s.chip) (a : Word) : t.stackAddr a = s.stackAddr a := by
  simp only [State.stackAddr, hc]

theorem stackAddr_internal {s : State} (h : s.chip.stackExternal = false) (a : Word) :
    s.stackAddr a = zext16 (loByte a) := by simp [State.stackAddr, h]

theorem stackAddr_external {s : State} (h : s.chip.stackExternal = true) (a : Word) : s.stackAddr a = a := by
  simp [State.stackAddr, h]

@[simp] theorem loByte_stackAddr (s : State) (a : Word) : loByte (s.stackAddr a) = loByte a := by
  cases h : s.chip.stackExternal
  · rw [stackAddr_internal h, loByte_zext16]
  · rw [stackAddr_external h]

/-- Steps along the stack may be taken one by one: every one wraps at the end of the stack space. -/
theorem stackAddr_stackAddr_add (s : State) (a b : Word) : s.stackAddr (s.stackAddr a + b) = s.stackAddr (a + b) := by
  cases h : s.chip.stackExternal
  · simp only [stackAddr_internal h, loByte_add, loByte_zext16]
  · simp only [stackAddr_external h]

theorem sp_internal {s : State} (h : s.chip.stackExternal = false) : s.sp = zext16 s.spl := by simp [State.sp, h]

theorem stackAddr_sp (s : State) : s.stackAddr s.sp = s.sp := by
  cases h : s.chip.stackExternal
  · rw [stackAddr_internal h, sp_internal h, loByte_zext16]
  · rw [stackAddr_external h]

theorem sp_setSp (s : State) (a : Word) : (s.setSp a).sp = s.stackAddr a := by
  cases h : s.chip.stackExternal <;> simp [State.sp, State.stackAddr, h]

theorem stackAddr_stackAddr (s : State) (a : Word) : s.stackAddr (s.stackAddr a) = s.stackAddr a := by
  simpa using stackAddr_stackAddr_add s a 0

/-- Where the stack is, an access wraps by itself. -/
theorem stackRead_stackAddr {s t : State} (hc : t.chip = s.chip) (k : ReadSlot) (a : Word) :
    t.stackRead k (s.stackAddr a) = t.stackRead k a := by
  rw [← stackAddr_congr hc]
  cases h : t.chip.stackExternal
  · simp [State.stackRead, h]
  · rw [stackAddr_external h]

theorem stackWrite_stackAddr {s t : State} (hc : t.chip = s.chip) (a : Word) (v : Byte) :
    t.stackWrite (s.stackAddr a) v = t.stackWrite a v := by
  rw [← stackAddr_congr hc]
  cases h : t.chip.stackExternal
  · simp [State.stackWrite, h]
  · rw [stackAddr_external h]

/-- The byte at stack address `a` is plain storage: external data memory the part has, or a general-purpose register it has. -/
structure State.StackCell (s : State) (a : Word) : Prop where
  external : s.chip.stackExternal = true → s.chip.extData = true
  general : s.chip.stackExternal = false →
    4 ≤ (loByte a).toNat ∧ (loByte a).toNat < 0xF0 ∧ s.absent (loByte a) = false

theorem stackCell_of_roomFor {s : State} {n i : Nat} (h : s.roomFor n = true) (hi : i < n) :
    s.StackCell (s.sp - 1 - BitVec.ofNat 16 i) := by
  unfold State.roomFor at h
  constructor
  · intro hx
    rwa [if_pos hx] at h
  · intro hx
    have hlo : loByte (s.sp - 1 - BitVec.ofNat 16 i) = s.spl - 1 - BitVec.ofNat 8 i := by
      rw [loByte_sub, loByte_sub, loByte_ofNat, sp_internal hx, loByte_zext16]
      rfl
    rw [if_neg (by simp [hx]), List.all_eq_true] at h
    have hcell := h i (List.mem_range.mpr hi)
    simp only [Bool.and_eq_true, decide_eq_true_eq, Bool.not_eq_true', and_assoc] at hcell
    rw [hlo]
    exact hcell

theorem State.StackCell.congr {s t : State} {a : Word} (h : s.StackCell a) (hc : t.chip = s.chip) (hr : t.rp = s.rp) :
    t.StackCell a := by
  constructor
  · rw [hc]; exact h.external
  · rw [hc, absent_congr hc hr]; exact h.general

/-- The register of an internal stack cell is not one the oracle or the CPU itself uses. -/
theorem State.StackCell.loc {s : State} {a : Word} (h : s.StackCell a) (hx : s.chip.stackExternal = false) :
    (∃ i, s.loc (loByte a) = .gpr i) ∨ ∃ i, s.loc (loByte a) = .bank i :=
  loc_of_general (h.general hx).1 (h.general hx).2.1

/-- What a write to a stack cell does: the cell holds the byte, the other stack bytes and the stack pointer are as before. -/
structure State.PutsByte (s : State) (a : Word) (v : Byte) (t : State) : Prop where
  chip : t.chip = s.chip
  rp : t.rp = s.rp
  sp : t.sp = s.sp
  data : memWf t.data = true
  read : ∀ k, t.stackRead k a = .ok v
  others : ∀ k b, s.stackAddr b ≠ s.stackAddr a → t.stackRead k b = s.stackRead k b

theorem stackRead_external {s : State} (hx : s.chip.stackExternal = true) (hd : s.chip.extData = true) (k : ReadSlot)
    (a : Word) : s.stackRead k a = .ok (memRead s.data a.toNat) :=
  stackRead_ok.mpr (.inl ⟨hx, hd, rfl⟩)

theorem stackRead_internal {s : State} (hx : s.chip.stackExternal = false) (k : ReadSlot) (a : Word) :
    s.stackRead k a = s.readReg k (loByte a) := by simp [State.stackRead, hx]

theorem putsByte_data {s : State} {a : Word} (v : Byte) (hx : s.chip.stackExternal = true) (hd : s.chip.extData = true)
    (hm : memWf s.data = true) : s.PutsByte a v { s with data := memWrite s.data a.toNat v } where
  chip := rfl
  rp := rfl
  sp := rfl
  data := memWf_memWrite _ _ hm a.isLt
  read k := stackRead_ok.mpr (.inl ⟨hx, hd, (memRead_memWrite hm _ _ v).trans (if_pos rfl)⟩)
  others k b hb := by
    rw [stackAddr_external hx, stackAddr_external hx] at hb
    rw [stackRead_external hx hd]
    exact stackRead_ok.mpr (.inl ⟨hx, hd,
      (memRead_memWrite hm _ _ v).trans (if_neg fun h => hb (BitVec.eq_of_toNat_eq h))⟩)

theorem putsByte_store {s : State} {a : Word} (v : Byte) (hx : s.chip.stackExternal = false) (h : s.StackCell a)
    (hm : memWf s.data = true) : s.PutsByte a v (s.store (s.loc (loByte a)) v) := by
  have hloc := h.loc hx
  have hne : ∀ l, (∀ i, l ≠ .gpr i) → (∀ i, l ≠ .bank i) → s.loc (loByte a) ≠ l := by
    rintro l hg hb rfl
    obtain ⟨i, hi⟩ | ⟨i, hi⟩ := hloc
    · exact hg i hi
    · exact hb i hi
  have hrp := s.store_rp_of_ne v (hne .rp nofun nofun)
  have hspl := s.store_spl_of_ne v (hne .spl nofun nofun)
  have hx' : (s.store (s.loc (loByte a)) v).chip.stackExternal = false := by rw [State.store_chip, hx]
  exact {
    chip := s.store_chip _ v
    rp := hrp
    sp := by rw [sp_internal hx', sp_internal hx, hspl]
    data := by rw [State.store_data, hm]
    read := fun k => by
      rw [stackRead_internal hx', readReg_ok, absent_congr (s.store_chip _ v) hrp, loc_congr (s.store_chip _ v) hrp]
      exact ⟨(h.general hx).2.2, s.valueAt_store_same k v fun x => hne (.device x) nofun nofun⟩
    others := fun k b hb => by
      rw [stackAddr_internal hx, stackAddr_internal hx] at hb
      rw [stackRead_internal hx', stackRead_internal hx]
      refine readReg_congr (s.store_chip _ v) hrp (s.valueAt_store_ne k v fun hl => hb ?_)
      rw [loc_injective s hl] }

theorem stackWrite_of_cell {s : State} {a : Word} (v : Byte) (h : s.StackCell a) (hm : memWf s.data = true) :
    ∃ t, s.stackWrite a v = .ok t ∧ s.PutsByte a v t := by
  cases hx : s.chip.stackExternal with
  | true => exact ⟨_, stackWrite_ok.mpr (.inl ⟨hx, h.external hx, rfl⟩), putsByte_data v hx (h.external hx) hm⟩
  | false => exact ⟨_, stackWrite_ok.mpr (.inr ⟨hx, (h.general hx).2.2, rfl⟩), putsByte_store v hx h hm⟩

theorem stackAddr_add_one_ne (s : State) (a : Word) : s.stackAddr (a + 1) ≠ s.stackAddr a := by
  intro h
  have hlo := congrArg loByte h
  rw [loByte_stackAddr, loByte_stackAddr, loByte_add] at hlo
  have hone : loByte (1 : Word) = 1 := rfl
  rw [hone] at hlo
  bv_omega

/-- What pushing a word on two stack cells does: the high byte lies at the lower address (10_state.md R32). -/
structure State.PushedWord (s : State) (w : Word) (t : State) : Prop where
  chip : t.chip = s.chip
  rp : t.rp = s.rp
  sp : t.sp = s.stackAddr (s.sp - 2)
  high : ∀ k, t.stackRead k (s.sp - 2) = .ok (hiByte w)
  low : ∀ k, t.stackRead k (s.sp - 1) = .ok (loByte w)

theorem push16_of_cells {s : State} (w : Word) (h2 : s.StackCell (s.sp - 2)) (h1 : s.StackCell (s.sp - 1))
    (hm : memWf s.data = true) : ∃ t, s.push16 w = .ok t ∧ s.PushedWord w t := by
  have hnext : s.sp - 2 + 1 = s.sp - 1 := by bv_omega
  have hc0 := s.setSp_chip (s.stackAddr (s.sp - 2))
  have hr0 := s.setSp_rp (s.stackAddr (s.sp - 2))
  have hm0 : memWf (s.setSp (s.stackAddr (s.sp - 2))).data = true := by rw [State.setSp_data, hm]
  obtain ⟨u, hu, putHi⟩ := stackWrite_of_cell (hiByte w) (h2.congr hc0 hr0) hm0
  have hcu := putHi.chip.trans hc0
  have hru := putHi.rp.trans hr0
  obtain ⟨t, ht, putLo⟩ := stackWrite_of_cell (loByte w) (h1.congr hcu hru) putHi.data
  refine ⟨t, push16_ok.mpr ⟨u, ?_, ?_⟩, ?_⟩
  · rw [stackWrite_stackAddr hc0, hu]
  · rw [stackAddr_stackAddr_add, hnext, stackWrite_stackAddr hcu, ht]
  · exact {
      chip := putLo.chip.trans hcu
      rp := putLo.rp.trans hru
      sp := by rw [putLo.sp, putHi.sp, sp_setSp, stackAddr_stackAddr]
      high := fun k => by
        rw [putLo.others k _ fun h => stackAddr_add_one_ne u (s.sp - 2) (by rw [hnext, h]), putHi.read]
      low := putLo.read }

/-- A plain stack byte reads the same after an instruction has retired: no oracle answers for it. -/
theorem stackRead_retire {s : State} {a : Word} (h : s.StackCell a) (k : ReadSlot) :
    s.retire.stackRead k a = s.stackRead k a := by
  cases hx : s.chip.stackExternal with
  | true => rw [stackRead_external hx (h.external hx)]; exact stackRead_external (s := s.retire) hx (h.external hx) k a
  | false =>
    rw [stackRead_internal hx]
    refine (stackRead_internal (s := s.retire) hx k a).trans (readReg_congr rfl rfl ?_)
    obtain ⟨i, hi⟩ | ⟨i, hi⟩ := h.loc hx <;> rw [hi] <;> rfl

theorem State.PushedWord.jump_retire {s t : State} {w : Word} (h : s.PushedWord w t) (h2 : s.StackCell (s.sp - 2))
    (h1 : s.StackCell (s.sp - 1)) (d : Word) : s.PushedWord w (t.jump d).retire where
  chip := h.chip
  rp := h.rp
  sp := h.sp
  high k := (stackRead_retire (s := t.jump d) (h2.congr h.chip h.rp) k).trans (h.high k)
  low k := (stackRead_retire (s := t.jump d) (h1.congr h.chip h.rp) k).trans (h.low k)

theorem State.PushedWord.read_sp {s t : State} {w : Word} (h : s.PushedWord w t) (k : ReadSlot) :
    t.stackRead k t.sp = .ok (hiByte w) := by
  rw [h.sp, stackRead_stackAddr h.chip, h.high]

theorem State.PushedWord.stackAddr_sp_add {s t : State} {w : Word} (h : s.PushedWord w t) (b : Word) :
    t.stackAddr (t.sp + b) = s.stackAddr (s.sp - 2 + b) := by
  rw [stackAddr_congr h.chip, h.sp, stackAddr_stackAddr_add]

theorem State.PushedWord.read_sp_succ {s t : State} {w : Word} (h : s.PushedWord w t) (k : ReadSlot) :
    t.stackRead k (t.stackAddr (t.sp + 1)) = .ok (loByte w) := by
  have hnext : s.sp - 2 + 1 = s.sp - 1 := by bv_omega
  rw [h.stackAddr_sp_add, hnext, stackRead_stackAddr h.chip, h.low]

/-- Popping the word pushed gives it back, and the stack pointer where it was (10_state.md R32). -/
theorem State.PushedWord.pop16 {s t : State} {w : Word} (h : s.PushedWord w t) (kh kl : ReadSlot) :
    t.pop16 kh kl = .ok (w, t.setSp s.sp) := by
  refine pop16_ok.mpr ⟨_, _, h.read_sp kh, h.read_sp_succ kl, ?_⟩
  have hback : s.sp - 2 + 2 = s.sp := by bv_omega
  rw [h.stackAddr_sp_add, hback, stackAddr_sp, word16_hiByte_loByte]

theorem execRet_of_pop16 {s s1 : State} {w : Word} (h : s.pop16 .stack0 .stack1 = .ok (w, s1)) :
    execRet s = .next (s1.jump w).retire := by
  simp only [execRet, h]
  rfl

/-- Settles O20: CALL pushes the return address on two plain stack bytes, and RET pops what was pushed. -/
theorem callThenRet : Obligations.CallThenRet := by
  intro s dst hroom hm
  have h1 : s.StackCell (s.sp - 1) := by simpa using stackCell_of_roomFor hroom (i := 0) (by decide)
  have h2 : s.StackCell (s.sp - 2) := by
    have htwo : s.sp - 1 - BitVec.ofNat 16 1 = s.sp - 2 := by bv_omega
    exact htwo ▸ stackCell_of_roomFor hroom (i := 1) (by decide)
  obtain ⟨p, hp, hpushed⟩ := push16_of_cells s.pc h2 h1 hm
  have hcall := hpushed.jump_retire h2 h1 dst
  refine ⟨(p.jump dst).retire, _, finish_next.mpr ⟨_, call_ok.mpr ⟨p, hp, rfl⟩, rfl⟩, rfl, hcall.read_sp,
    hcall.read_sp_succ, execRet_of_pop16 (hcall.pop16 .stack0 .stack1), rfl, ?_⟩
  calc _ = ((p.jump dst).retire.setSp s.sp).sp := rfl
    _ = s.sp := by rw [sp_setSp, stackAddr_congr hcall.chip, stackAddr_sp]

end Machine

end Sys2Proof


namespace Sys2Proof.Machine

/-! ## The instructions of each form, as the shape that gives them their meaning -/

theorem exec_add (f : TwoForm) (s : State) : exec f.add s = alu2 addOp f.dst f.src s := by cases f <;> rfl

theorem exec_adc (f : TwoForm) (s : State) : exec f.adc s = alu2 addCore f.dst f.src s := by cases f <;> rfl

theorem exec_sub (f : TwoForm) (s : State) : exec f.sub s = alu2 subOp f.dst f.src s := by cases f <;> rfl

theorem exec_sbc (f : TwoForm) (s : State) : exec f.sbc s = alu2 subCore f.dst f.src s := by cases f <;> rfl

theorem exec_and (f : TwoForm) (s : State) : exec f.and s = alu2 (logicOp (· &&& ·)) f.dst f.src s := by cases f <;> rfl

theorem exec_or (f : TwoForm) (s : State) : exec f.or s = alu2 (logicOp (· ||| ·)) f.dst f.src s := by cases f <;> rfl

theorem exec_xor (f : TwoForm) (s : State) : exec f.xor s = alu2 (logicOp (· ^^^ ·)) f.dst f.src s := by cases f <;> rfl

theorem exec_inc (f : OneForm) (s : State) : exec f.inc s = alu1 (plain incCore) f.place s := by cases f <;> rfl

theorem exec_dec (f : OneForm) (s : State) : exec f.dec s = alu1 (plain decCore) f.place s := by cases f <;> rfl

theorem exec_com (f : OneForm) (s : State) : exec f.com s = alu1 (plain comCore) f.place s := by cases f <;> rfl

theorem exec_rl (f : OneForm) (s : State) : exec f.rl s = alu1 rlCore f.place s := by cases f <;> rfl

theorem exec_rlc (f : OneForm) (s : State) : exec f.rlc s = alu1 rlcCore f.place s := by cases f <;> rfl

theorem exec_rr (f : OneForm) (s : State) : exec f.rr s = alu1 rrCore f.place s := by cases f <;> rfl

theorem exec_rrc (f : OneForm) (s : State) : exec f.rrc s = alu1 rrcCore f.place s := by cases f <;> rfl

theorem exec_sra (f : OneForm) (s : State) : exec f.sra s = alu1 sraCore f.place s := by cases f <;> rfl

theorem exec_swap (f : OneForm) (s : State) :
    exec f.swap s = alu1 (fun d _ => swapCore d (Config.freeFlag s.time .v)) f.place s := by cases f <;> rfl

theorem exec_da (f : OneForm) (s : State) : exec f.da s = decimalAdjust f.place s := by cases f <;> rfl

theorem exec_incw (f : OneForm) (s : State) : exec f.incw s = aluPair incwCore (f.pair s) s := by cases f <;> rfl

theorem exec_decw (f : OneForm) (s : State) : exec f.decw s = aluPair decwCore (f.pair s) s := by cases f <;> rfl

theorem exec_pop (f : OneForm) (s : State) : exec f.pop s = pop f.place s := by cases f <;> rfl

theorem exec_push (f : OneForm) (s : State) : exec f.push s = push f.place s := by cases f <;> rfl

/-! ## Clashes of an explicit operand with an implicit one (10_state.md R38; log 16) -/

theorem writeWithFlags_clash (s : State) (r : Byte) (u : FlagUpd) :
    s.writeWithFlags 0xFC r u = .error .implicitExplicitClash := if_pos rfl

theorem alu2_clash {f : Byte → Byte → Bool → Byte × FlagUpd} {dst : Place} {src : Source} {s : State} {d v : Byte}
    (h : Readable s dst src 0xFC d v) : alu2 f dst src s = .fault .implicitExplicitClash := by
  simp only [alu2, h.addr, h.source, h.old, ok_bind, writeWithFlags_clash, finish_error]

theorem alu1_clash {f : Byte → Bool → Byte × FlagUpd} {dst : Place} {s : State} {d : Byte}
    (ha : s.dstAddr dst = .ok 0xFC) (hd : s.readReg .dst 0xFC = .ok d) :
    alu1 f dst s = .fault .implicitExplicitClash := by
  simp only [alu1, ha, hd, ok_bind, writeWithFlags_clash, finish_error]

theorem aluPair_clash (f : Word → Word × FlagUpd) (s : State) : aluPair f (.ok 0xFC) s = .fault .implicitExplicitClash :=
  rfl

/-- Where a row of the table covers the operand, DA reaches the write of its result, and so the clash (40_arithmetic.md R135). -/
theorem decimalAdjust_clash {dst : Place} {s : State} {d : Byte} {row : DaRow} (ha : s.dstAddr dst = .ok 0xFC)
    (hd : s.readReg .dst 0xFC = .ok d) (hrow : row ∈ daTable)
    (hcov : row.covers d (s.flag .c) (s.flag .h) (s.flag .d) = true) :
    decimalAdjust dst s = .fault .implicitExplicitClash := by
  obtain ⟨found, hfound⟩ : ∃ r, daRow d (s.flag .c) (s.flag .h) (s.flag .d) = some r :=
    Option.isSome_iff_exists.mp (List.find?_isSome.mpr ⟨row, hrow, hcov⟩)
  simp only [decimalAdjust, ha, hd, ok_bind, hfound, writeWithFlags_clash, finish_error]

theorem pop_clash {dst : Place} {s : State} {a : Byte} (ha : s.dstAddr dst = .ok a) (hsp : a = 0xFE ∨ a = 0xFF) :
    pop dst s = .fault .implicitExplicitClash := by
  simp only [pop, ha, ok_bind, if_pos (isStackPointer_iff.mpr hsp)]
  rfl

theorem push_clash {src : Place} {s : State} {a : Byte} (ha : s.placeAddr .srcPtr src = .ok a)
    (hsp : a = 0xFE ∨ a = 0xFF) : push src s = .fault .implicitExplicitClash := by
  simp only [push, ha, ok_bind, if_pos (isStackPointer_iff.mpr hsp)]
  rfl

theorem execCall_IRR_clash {o : RegOp} {s : State} (ho : s.regAddr o = 0xFE) :
    execCall_IRR o s = .fault .implicitExplicitClash := by
  simp only [execCall_IRR, ho]
  rfl

theorem pointerClash_iff {s : State} {n m : Nibble} :
    s.pointerClash n m = true ↔ n = m ∨ n = m + 1 ∨ s.wrAddr n = 0xFD := by
  simp [State.pointerClash, rpAddr, or_assoc]

theorem dataClash_iff {s : State} {n m : Nibble} {ra : Byte} :
    s.dataClash n m ra = true ↔ ra ∈ [s.wrAddr n, s.wrAddr m, s.wrAddr (m + 1), 0xFD] := by
  simp [State.dataClash, rpAddr, or_assoc]

theorem nibble_even_iff {m : Nibble} : m.getLsbD 0 = false ↔ m.toNat % 2 = 0 := by
  simp [BitVec.getLsbD, Nat.testBit_zero]

theorem loadByteInc_pointerClash (read : State → Word → Res Byte) {n m : Nibble} {s : State} (hm : m.getLsbD 0 = false)
    (hp : s.pointerClash n m = true) : loadByteInc read n m s = .fault .implicitExplicitClash := by
  simp only [loadByteInc, readPointers_clash hm hp, error_bind, finish_error]

theorem storeByteInc_pointerClash (write : State → Word → Byte → Res State) {n m : Nibble} {s : State}
    (hm : m.getLsbD 0 = false) (hp : s.pointerClash n m = true) :
    storeByteInc write n m s = .fault .implicitExplicitClash := by
  simp only [storeByteInc, readPointers_clash hm hp, error_bind, finish_error]

/-- With a pair and a byte pointer that can be read, only a clash of the pointers comes before the one of the loaded byte. -/
theorem loadByteInc_dataClash (read : State → Word → Res Byte) {n m : Nibble} {s : State} {a : Word} {ra : Byte}
    (ha : s.readWrPair m = .ok a) (hra : s.readWr .dstPtr n = .ok ra) (hd : s.dataClash n m ra = true) :
    loadByteInc read n m s = .fault .implicitExplicitClash := by
  cases hp : s.pointerClash n m with
  | true => exact loadByteInc_pointerClash read (readWrPair_ok.mp ha).1 hp
  | false =>
    have hptr : s.readPointers .dstPtr n m = .ok (ra, a) := readPointers_ok.mpr ⟨hp, hra, ha⟩
    simp only [loadByteInc, hptr, ok_bind, if_pos hd]
    rfl

/-- Settles O56: one clause for each shape of instruction. -/
theorem clashFaults : Obligations.ClashFaults := by
  refine ⟨fun f s d v h => ?_, fun f s d ha hd => ?_, fun f s hp => ?_, fun f s d ha hd row hrow hcov => ?_,
    fun n s d ha hd => ?_, fun f s a ha hsp => ?_, fun f s a ha hsp => ?_, fun o s ho => execCall_IRR_clash ho,
    fun s n m hm hp => ?_, fun s n m a ra ha hra hd => ?_⟩
  · simp [exec_add, exec_adc, exec_sub, exec_sbc, exec_and, exec_or, exec_xor, alu2_clash h]
  · simp [exec_inc, exec_dec, exec_com, exec_rl, exec_rlc, exec_rr, exec_rrc, exec_sra, exec_swap, alu1_clash ha hd]
  · rw [exec_incw, exec_decw, hp]
    exact ⟨aluPair_clash _ s, aluPair_clash _ s⟩
  · rw [exec_da]; exact decimalAdjust_clash ha hd hrow hcov
  · exact alu1_clash (dst := .r n) (congrArg Except.ok ha) hd
  · rw [exec_pop]; exact pop_clash ha hsp
  · rw [exec_push]; exact push_clash ha hsp
  · have hm := nibble_even_iff.mpr hm
    have hp := pointerClash_iff.mpr hp
    exact ⟨loadByteInc_pointerClash _ hm hp, storeByteInc_pointerClash _ hm hp, loadByteInc_pointerClash _ hm hp,
      storeByteInc_pointerClash _ hm hp⟩
  · have hd := dataClash_iff.mpr hd
    exact ⟨loadByteInc_dataClash _ ha hra hd, loadByteInc_dataClash _ ha hra hd⟩

end Sys2Proof.Machine


namespace Sys2Proof.Machine

/-! ## What an instruction may touch, as one relation (10_state.md R20, R24, R28, R33, R34; 20_memory.md R69) -/

/-- The registers an instruction may write, the flags it may set, and whether it may load the PC. -/
structure Footprint where
  locs : List RegLoc
  flags : List Flag
  jumps : Bool

/-- The footprint of an instruction, in the terms of the claims. -/
def footprint (i : Instr) (s : State) : Footprint := ⟨destLocs i s, flagsOf i, mayJump i⟩

/-- From `s` to `t` registers, flags, PC and write history change inside the footprint alone, and the part not at all. -/
structure State.Within (s : State) (F : Footprint) (t : State) : Prop where
  chip : t.chip = s.chip
  held : ∀ l, l ≠ .flags → l ∉ F.locs → t.held l = s.held l
  flags : .flags ∉ F.locs → ∀ b, (∀ x ∈ F.flags, (s.chip.flagBits.at x).val ≠ b) → t.flags.getLsbD b = s.flags.getLsbD b
  pc : F.jumps = false → t.pc = s.pc
  deviceWrites : ∃ ws, t.deviceWrites = s.deviceWrites ++ ws ∧ ∀ w ∈ ws, .device w.1 ∈ F.locs

theorem State.Within.trans {s t u : State} {F : Footprint} (h1 : s.Within F t) (h2 : t.Within F u) : s.Within F u where
  chip := h2.chip.trans h1.chip
  held l hl hF := (h2.held l hl hF).trans (h1.held l hl hF)
  flags hF b hb := (h2.flags hF b (h1.chip ▸ hb)).trans (h1.flags hF b hb)
  pc hj := (h2.pc hj).trans (h1.pc hj)
  deviceWrites := by
    obtain ⟨ws, hws, hin⟩ := h1.deviceWrites
    obtain ⟨vs, hvs, hin'⟩ := h2.deviceWrites
    refine ⟨ws ++ vs, by rw [hvs, hws, List.append_assoc], fun w hw => ?_⟩
    exact (List.mem_append.mp hw).elim (hin w) (hin' w)

/-- A change of memories, modes or bookkeeping: no register, no PC, no write to a device. -/
theorem within_of_same {s t : State} {F : Footprint} (hc : t.chip = s.chip) (hheld : ∀ l, t.held l = s.held l)
    (hpc : t.pc = s.pc) (hdev : t.deviceWrites = s.deviceWrites) : s.Within F t where
  chip := hc
  held l _ _ := hheld l
  flags _ b _ := by
    have hflags : t.flags = s.flags := hheld .flags
    rw [hflags]
  pc _ := hpc
  deviceWrites := ⟨[], by rw [hdev, List.append_nil], nofun⟩

theorem within_refl (s : State) (F : Footprint) : s.Within F s := within_of_same rfl (fun _ => rfl) rfl rfl

theorem within_retire (s : State) (F : Footprint) : s.Within F s.retire :=
  within_of_same rfl (fun l => by cases l <;> rfl) rfl rfl

theorem within_prog (s : State) (F : Footprint) (m : Mem) : s.Within F { s with prog := m } :=
  within_of_same rfl (fun l => by cases l <;> rfl) rfl rfl

theorem within_data (s : State) (F : Footprint) (m : Mem) : s.Within F { s with data := m } :=
  within_of_same rfl (fun l => by cases l <;> rfl) rfl rfl

theorem within_jump (s : State) {F : Footprint} (hj : F.jumps = true) (a : Word) : s.Within F (s.jump a) where
  chip := rfl
  held l _ _ := by cases l <;> rfl
  flags _ _ _ := rfl
  pc h := by rw [hj] at h; cases h
  deviceWrites := ⟨[], (List.append_nil _).symm, nofun⟩

theorem within_jumpIf (s : State) {F : Footprint} (hj : F.jumps = true) (c : Bool) (a : Word) :
    s.Within F (if c then s.jump a else s) := by
  cases c
  · exact within_refl s F
  · exact within_jump s hj a

theorem held_store_of_ne (s : State) {l l' : RegLoc} (v : Byte) (h : l' ≠ l) : (s.store l v).held l' = s.held l' := by
  cases l' with
  | device => rfl
  | _ => exact s.valueAt_store_ne .src v h

theorem store_deviceWrites (s : State) (l : RegLoc) (v : Byte) :
    ∃ ws, (s.store l v).deviceWrites = s.deviceWrites ++ ws ∧ ∀ w ∈ ws, .device w.1 = l := by
  cases l with
  | device a => exact ⟨[(a, v)], rfl, fun w hw => by rw [List.mem_singleton.mp hw]⟩
  | _ => exact ⟨[], (List.append_nil _).symm, nofun⟩

theorem within_store (s : State) {F : Footprint} {l : RegLoc} (v : Byte) (hl : l ∈ F.locs) :
    s.Within F (s.store l v) where
  chip := s.store_chip l v
  held l' _ hF := held_store_of_ne s v fun h => hF (h ▸ hl)
  flags hF b _ := by rw [s.store_flags_of_ne v fun h => hF (h ▸ hl)]
  pc _ := s.store_pc l v
  deviceWrites := by
    obtain ⟨ws, hws, hdev⟩ := store_deviceWrites s l v
    exact ⟨ws, hws, fun w hw => hdev w hw ▸ hl⟩

theorem within_setSp (s : State) {F : Footprint} (a : Word) (hsp : ∀ l ∈ s.spLocs, l ∈ F.locs) :
    s.Within F (s.setSp a) := by
  unfold State.spLocs at hsp
  unfold State.setSp
  split_ifs at hsp ⊢
  · exact (within_store s (l := .sph) (hiByte a) (hsp _ (by simp))).trans
      (within_store _ (l := .spl) (loByte a) (hsp _ (by simp)))
  · exact within_store s (l := .spl) (loByte a) (hsp _ (by simp))

/-! ## Flag updates -/

/-- The update changes none but the listed flags. -/
def FlagUpd.Only (u : FlagUpd) (fs : List Flag) : Prop := ∀ x, u.at x ≠ none → x ∈ fs

theorem only_all (u : FlagUpd) : u.Only [.c, .z, .s, .v, .d, .h] := fun x _ => by cases x <;> decide

theorem only_czsv {u : FlagUpd} (hd : u.d = none) (hh : u.h = none) : u.Only [.c, .z, .s, .v] := by
  intro x hx
  cases x with
  | d => exact absurd hd hx
  | h => exact absurd hh hx
  | _ => decide

theorem only_zsv {u : FlagUpd} (hc : u.c = none) (hd : u.d = none) (hh : u.h = none) : u.Only [.z, .s, .v] := by
  intro x hx
  cases x with
  | c => exact absurd hc hx
  | d => exact absurd hd hx
  | h => exact absurd hh hx
  | _ => decide

theorem only_c (b : Bool) : FlagUpd.Only { c := some b } [.c] := by
  intro x hx
  cases x with
  | c => decide
  | _ => exact absurd rfl hx

theorem within_withFlags (s : State) {F : Footprint} {u : FlagUpd} (hu : u.Only F.flags) : s.Within F (s.withFlags u) where
  chip := rfl
  held l hl _ := by cases l <;> first | rfl | exact absurd rfl hl
  flags _ b hb := getLsbD_applyFlags_of_none _ _ u b fun x hx => hb x (hu x hx)
  pc _ := rfl
  deviceWrites := ⟨[], (List.append_nil _).symm, nofun⟩

/-- A register other than FLAGS written and then the flags, as every instruction of the ALU does. -/
theorem within_store_flags (s : State) {F : Footprint} {l : RegLoc} {u : FlagUpd} (v : Byte) (hl : l ∈ F.locs)
    (hne : l ≠ .flags) (hu : u.Only F.flags) :
    s.Within F { s.store l v with flags := applyFlags s.chip.flagBits s.flags u } := by
  have hflags : applyFlags (s.store l v).chip.flagBits (s.store l v).flags u = applyFlags s.chip.flagBits s.flags u := by
    rw [s.store_flags_of_ne v hne, State.store_chip]
  rw [← hflags]
  exact (within_store s v hl).trans (within_withFlags (s.store l v) hu)

/-! ## Register writes of the shared shapes -/

theorem within_finish {s t : State} {F : Footprint} {r : Res State} (hr : ∀ u, r = .ok u → s.Within F u)
    (h : finish r = .next t) : s.Within F t := by
  obtain ⟨u, hu, rfl⟩ := finish_next.mp h
  exact (hr u hu).trans (within_retire u F)

theorem within_finish_ok {s t u : State} {F : Footprint} (hu : s.Within F u) (h : finish (.ok u) = .next t) :
    s.Within F t := by
  cases h
  exact hu.trans (within_retire u F)

theorem within_writeReg {s t : State} {F : Footprint} {a v : Byte} (hl : s.loc a ∈ F.locs) (h : s.writeReg a v = .ok t) :
    s.Within F t := by
  obtain ⟨-, rfl⟩ := writeReg_ok.mp h
  exact within_store s v hl

theorem store_rp_of_addr_ne (s : State) {a : Byte} (v : Byte) (ha : a ≠ 0xFD) : (s.store (s.loc a) v).rp = s.rp :=
  s.store_rp_of_ne v (mt loc_eq_rp.mp ha)

/-- Writing one register moves no other address, unless it is RP that is written. -/
theorem loc_store_of_addr_ne (s : State) {a : Byte} (v : Byte) (ha : a ≠ 0xFD) (b : Byte) :
    (s.store (s.loc a) v).loc b = s.loc b := loc_congr (s.store_chip _ v) (store_rp_of_addr_ne s v ha) b

/-- Whatever register is written, RP too, the next address reaches what it reached: the one after RP is in no bank. -/
theorem loc_store_succ (s : State) (a v : Byte) : (s.store (s.loc a) v).loc (a + 1) = s.loc (a + 1) := by
  by_cases ha : a = 0xFD
  · have hhigh : 16 ≤ (a + 1).toNat := by rw [ha]; decide
    rw [loc_of_high _ hhigh, loc_of_high _ hhigh]
  · exact loc_store_of_addr_ne s v ha (a + 1)

theorem locAt_ok {s : State} {r : Res Byte} {a : Byte} (h : r = .ok a) : s.loc a ∈ s.locAt r := by
  rw [h]; exact List.mem_singleton_self _

theorem alu2_within {f : Byte → Byte → Bool → Byte × FlagUpd} {dst : Place} {src : Source} {s t : State} {F : Footprint}
    (h : alu2 f dst src s = .next t) (hl : F.locs = s.locAt (s.dstAddr dst))
    (hu : ∀ d v c, (f d v c).2.Only F.flags) : s.Within F t := by
  obtain ⟨a, v, d, ha, -, -, hne, rfl⟩ := alu2_next.mp h
  exact (within_store_flags s _ (hl ▸ locAt_ok ha) (mt loc_eq_flags.mp hne) (hu _ _ _)).trans (within_retire _ F)

theorem test2_within {f : Byte → Byte → Byte × FlagUpd} {dst : Place} {src : Source} {s t : State} {F : Footprint}
    (h : test2 f dst src s = .next t) (hu : ∀ d v, (f d v).2.Only F.flags) : s.Within F t := by
  obtain ⟨a, v, d, -, -, -, rfl⟩ := test2_next.mp h
  exact (within_withFlags s (hu d v)).trans (within_retire _ F)

theorem alu1_within {f : Byte → Bool → Byte × FlagUpd} {dst : Place} {s t : State} {F : Footprint}
    (h : alu1 f dst s = .next t) (hl : F.locs = s.locAt (s.dstAddr dst)) (hu : ∀ d c, (f d c).2.Only F.flags) :
    s.Within F t := by
  obtain ⟨a, d, ha, -, hne, rfl⟩ := alu1_next.mp h
  exact (within_store_flags s _ (hl ▸ locAt_ok ha) (mt loc_eq_flags.mp hne) (hu _ _)).trans (within_retire _ F)

theorem decimalAdjust_within {dst : Place} {s t : State} {F : Footprint} (h : decimalAdjust dst s = .next t)
    (hl : F.locs = s.locAt (s.dstAddr dst)) (hu : ∀ row v ov, (daCore row v ov).2.Only F.flags) : s.Within F t := by
  obtain ⟨a, d, row, ha, -, -, hne, rfl⟩ := decimalAdjust_next.mp h
  exact (within_store_flags s _ (hl ▸ locAt_ok ha) (mt loc_eq_flags.mp hne) (hu _ _ _)).trans (within_retire _ F)

theorem aluPair_within {f : Word → Word × FlagUpd} {p : Res Byte} {s t : State} {F : Footprint}
    (h : aluPair f p s = .next t) (hl : F.locs = s.pairAt p) (hu : ∀ w, (f w).2.Only F.flags) : s.Within F t := by
  obtain ⟨a, w, rfl, -, -, -, s1, s2, hhi, hlo, rfl⟩ := aluPair_next.mp h
  obtain ⟨-, rfl⟩ := writeReg_ok.mp hhi
  have hlocs : ∀ l, l = s.loc a ∨ l = s.loc (a + 1) → l ∈ F.locs := fun l h => by simpa [hl, State.pairAt] using h
  have hnext := within_writeReg (hlocs _ (.inr (loc_store_succ s a _))) hlo
  exact ((within_store s _ (hlocs _ (.inl rfl))).trans hnext).trans
    ((within_withFlags s2 (hu w)).trans (within_retire _ F))

theorem load_within {dst : Place} {src : Source} {s t : State} {F : Footprint} (h : load dst src s = .next t)
    (hl : F.locs = s.locAt (s.dstAddr dst)) : s.Within F t := by
  obtain ⟨a, v, ha, -, -, rfl⟩ := load_next.mp h
  exact (within_store s v (hl ▸ locAt_ok ha)).trans (within_retire _ F)

theorem setFlags_within {u : FlagUpd} {s t : State} {F : Footprint} (h : setFlags u s = .next t) (hu : u.Only F.flags) :
    s.Within F t := within_finish_ok (within_withFlags s hu) h

theorem loadByte_within {read : State → Word → Res Byte} {n m : Nibble} {s t : State} {F : Footprint}
    (h : loadByte read n m s = .next t) (hl : s.loc (s.wrAddr n) ∈ F.locs) : s.Within F t := by
  obtain ⟨a, v, -, -, -, rfl⟩ := loadByte_next.mp h
  exact (within_store s v hl).trans (within_retire _ F)

theorem execLd_R_r_within {dst : Byte} {src : Nibble} {s t : State} {F : Footprint} (h : execLd_R_r dst src s = .next t)
    (hl : s.loc dst ∈ F.locs) : s.Within F t := by
  refine within_finish (fun u hu => ?_) h
  split at hu
  · cases hu
  · obtain ⟨v, -, hwrite⟩ := bind_ok.mp hu
    exact within_writeReg hl hwrite

theorem execDjnz_r_RA_within {r : Nibble} {dst : Byte} {s t : State} {F : Footprint}
    (h : execDjnz_r_RA r dst s = .next t) (hl : s.loc (s.wrAddr r) ∈ F.locs) (hj : F.jumps = true) : s.Within F t := by
  refine within_finish (fun u hu => ?_) h
  split at hu
  · cases hu
  · simp only [bind_ok, pure, Except.pure, Except.ok.injEq] at hu
    obtain ⟨x, -, s1, hwrite, rfl⟩ := hu
    exact (within_writeReg hl hwrite).trans (within_jumpIf s1 hj _ _)

theorem execJp_IRR_within {dst : RegOp} {s t : State} {F : Footprint} (h : execJp_IRR dst s = .next t)
    (hj : F.jumps = true) : s.Within F t := by
  refine within_finish (fun u hu => ?_) h
  simp only [bind_ok, pure, Except.pure, Except.ok.injEq] at hu
  obtain ⟨p, -, a, -, rfl⟩ := hu
  exact within_jump s hj a

/-! ## LDCI and LDEI: the byte pointer is not RP and the pair is even, so RP moves last if at all (43_load.md R211, R213) -/

theorem wrAddr_ne_rp_of_even (s : State) {m : Nibble} (hm : m.getLsbD 0 = false) : s.wrAddr m ≠ 0xFD := by
  intro h
  have hval := congrArg BitVec.toNat h
  have heven := nibble_even_iff.mp hm
  rw [State.wrAddr, nibbles_toNat] at hval
  simp at hval
  omega

theorem wrAddr_ne_rp_of_not_pointerClash {s : State} {n m : Nibble} (h : s.pointerClash n m = false) :
    s.wrAddr n ≠ 0xFD :=
  fun e => Bool.false_ne_true (h.symm.trans (pointerClash_iff.mpr (.inr (.inr e))))

theorem ne_rp_of_not_dataClash {s : State} {n m : Nibble} {ra : Byte} (h : s.dataClash n m ra = false) : ra ≠ 0xFD :=
  fun e => Bool.false_ne_true (h.symm.trans (dataClash_iff.mpr (by simp [e])))

theorem pointerLocs_congr {s t : State} (hc : t.chip = s.chip) (hr : t.rp = s.rp) (n m : Nibble) :
    t.pointerLocs n m = s.pointerLocs n m := by
  simp only [State.pointerLocs, wrAddr_congr hr, loc_congr hc hr]

theorem within_incPointers {s t : State} {F : Footprint} {n m : Nibble} {ra : Byte} {a : Word}
    (hn : s.wrAddr n ≠ 0xFD) (hm : m.getLsbD 0 = false) (hl : ∀ l ∈ s.pointerLocs n m, l ∈ F.locs)
    (h : s.incPointers n m ra a = .ok t) : s.Within F t := by
  obtain ⟨s1, s2, h1, h2, h3⟩ := incPointers_ok.mp h
  simp only [State.pointerLocs, List.mem_cons, List.not_mem_nil, or_false, forall_eq_or_imp, forall_eq] at hl
  obtain ⟨hln, hlm, hlm'⟩ := hl
  have hm' := wrAddr_ne_rp_of_even s hm
  obtain ⟨-, rfl⟩ := writeReg_ok.mp h1
  have hc1 := s.store_chip (s.loc (s.wrAddr n)) (ra + 1)
  have hr1 := store_rp_of_addr_ne s (ra + 1) hn
  rw [State.writeWr, wrAddr_congr hr1] at h2
  have w2 := within_writeReg (loc_congr hc1 hr1 _ ▸ hlm) h2
  obtain ⟨-, rfl⟩ := writeReg_ok.mp h2
  have hr2 := (store_rp_of_addr_ne _ (hiByte (a + 1)) hm').trans hr1
  rw [State.writeWr, wrAddr_congr hr2] at h3
  have w3 := within_writeReg (loc_congr (w2.chip.trans hc1) hr2 _ ▸ hlm') h3
  exact (within_store s _ hln).trans (w2.trans w3)

theorem loadByteInc_within {read : State → Word → Res Byte} {n m : Nibble} {s t : State} {F : Footprint}
    (h : loadByteInc read n m s = .next t) (hl : F.locs = s.pointerLocs n m ++ s.locAt (s.readWr .dstPtr n)) :
    s.Within F t := by
  obtain ⟨a, ra, v, s1, u, ha, hp, hra, hd, -, hwrite, hinc, rfl⟩ := loadByteInc_next.mp h
  have hn := wrAddr_ne_rp_of_not_pointerClash hp
  obtain ⟨-, rfl⟩ := writeReg_ok.mp hwrite
  have hc := s.store_chip (s.loc ra) v
  have hr := store_rp_of_addr_ne s v (ne_rp_of_not_dataClash hd)
  have hpoint : ∀ l ∈ s.pointerLocs n m, l ∈ F.locs := fun l h => hl ▸ List.mem_append_left _ h
  rw [← pointerLocs_congr hc hr] at hpoint
  have hbyte := within_store s v (F := F) (hl ▸ List.mem_append_right _ (locAt_ok hra))
  exact (hbyte.trans (within_incPointers (wrAddr_congr hr n ▸ hn) (readWrPair_ok.mp ha).1 hpoint hinc)).trans
    (within_retire u F)

theorem within_writeProg {s t : State} {F : Footprint} {a : Word} {v : Byte} (h : s.writeProg a v = .ok t) :
    s.Within F t ∧ t.rp = s.rp := by
  obtain ⟨-, -, rfl⟩ := writeProg_ok.mp h
  exact ⟨within_prog s F _, rfl⟩

theorem within_writeData {s t : State} {F : Footprint} {a : Word} {v : Byte} (h : s.writeData a v = .ok t) :
    s.Within F t ∧ t.rp = s.rp := by
  obtain ⟨-, rfl⟩ := writeData_ok.mp h
  exact ⟨within_data s F _, rfl⟩

theorem storeByte_within {write : State → Word → Byte → Res State} {n m : Nibble} {s t : State} {F : Footprint}
    (hw : ∀ {a v u}, write s a v = .ok u → s.Within F u ∧ u.rp = s.rp) (h : storeByte write n m s = .next t) :
    s.Within F t := by
  obtain ⟨a, v, u, -, -, hwrite, rfl⟩ := storeByte_next.mp h
  exact (hw hwrite).1.trans (within_retire u F)

theorem storeByteInc_within {write : State → Word → Byte → Res State} {n m : Nibble} {s t : State} {F : Footprint}
    (hw : ∀ {a v u}, write s a v = .ok u → s.Within F u ∧ u.rp = s.rp) (h : storeByteInc write n m s = .next t)
    (hl : F.locs = s.pointerLocs n m) : s.Within F t := by
  obtain ⟨a, ra, v, s1, u, ha, hp, -, -, hwrite, hinc, rfl⟩ := storeByteInc_next.mp h
  have hn := wrAddr_ne_rp_of_not_pointerClash hp
  obtain ⟨hmem, hr⟩ := hw hwrite
  have hpoint : ∀ l ∈ s1.pointerLocs n m, l ∈ F.locs := fun l h => by
    rw [hl, ← pointerLocs_congr hmem.chip hr]; exact h
  exact (hmem.trans (within_incPointers (wrAddr_congr hr n ▸ hn) (readWrPair_ok.mp ha).1 hpoint hinc)).trans
    (within_retire u F)

/-! ## The stack (10_state.md R31, R32; log 21) -/

theorem within_stackWrite {s t : State} {F : Footprint} {a : Word} {v : Byte}
    (hl : s.chip.stackExternal = false → s.loc (loByte a) ∈ F.locs) (h : s.stackWrite a v = .ok t) : s.Within F t := by
  obtain ⟨-, -, rfl⟩ | ⟨hx, -, rfl⟩ := stackWrite_ok.mp h
  · exact within_data s F _
  · exact within_store s v (hl hx)

theorem mem_stackLocs {s : State} {as : List Word} {a : Word} (ha : a ∈ as) (hx : s.chip.stackExternal = false) :
    s.loc (loByte a) ∈ s.stackLocs as := by
  rw [State.stackLocs, if_neg (by simp [hx])]
  exact List.mem_map_of_mem (f := fun b => s.loc (loByte b)) ha

/-- Moving the stack pointer moves no address. -/
theorem loc_setSp (s : State) (a : Word) (b : Byte) : (s.setSp a).loc b = s.loc b :=
  loc_congr (s.setSp_chip a) (s.setSp_rp a) b

/-- After a byte is put on the stack, the next stack address is still the register it was. -/
theorem loc_stackWrite_succ {s t : State} {a : Word} {v : Byte} (h : s.stackWrite a v = .ok t) :
    t.loc (loByte (a + 1)) = s.loc (loByte (a + 1)) := by
  have hone : loByte (1 : Word) = 1 := rfl
  obtain ⟨-, -, rfl⟩ | ⟨-, -, rfl⟩ := stackWrite_ok.mp h
  · rfl
  · rw [loByte_add, hone]; exact loc_store_succ s _ v

theorem within_push8 {s t : State} {F : Footprint} {v : Byte} (hsp : ∀ l ∈ s.spLocs, l ∈ F.locs)
    (hst : ∀ l ∈ s.stackLocs s.pushAddrs8, l ∈ F.locs) (h : s.push8 v = .ok t) : s.Within F t := by
  refine (within_setSp s _ hsp).trans (within_stackWrite (fun hx => ?_) (push8_ok.mp h))
  rw [State.setSp_chip] at hx
  rw [loc_setSp]
  exact hst _ (mem_stackLocs (List.mem_singleton_self _) hx)

theorem within_push16 {s t : State} {F : Footprint} {w : Word} (hsp : ∀ l ∈ s.spLocs, l ∈ F.locs)
    (hst : ∀ l ∈ s.stackLocs s.pushAddrs16, l ∈ F.locs) (h : s.push16 w = .ok t) : s.Within F t := by
  obtain ⟨u, hhi, hlo⟩ := push16_ok.mp h
  have hmove := within_setSp s (s.stackAddr (s.sp - 2)) hsp
  have hhigh : (s.setSp (s.stackAddr (s.sp - 2))).Within F u := by
    refine within_stackWrite (fun hx => ?_) hhi
    rw [State.setSp_chip] at hx
    rw [loc_setSp]
    exact hst _ (mem_stackLocs List.mem_cons_self hx)
  refine hmove.trans (hhigh.trans (within_stackWrite (fun hx => ?_) hlo))
  rw [hhigh.chip, State.setSp_chip] at hx
  rw [loByte_stackAddr, loc_stackWrite_succ hhi, loc_setSp, ← loByte_stackAddr s]
  exact hst _ (mem_stackLocs (List.mem_cons_of_mem _ (List.mem_singleton_self _)) hx)

theorem within_pop8 {s t : State} {F : Footprint} {k : ReadSlot} {v : Byte} (hsp : ∀ l ∈ s.spLocs, l ∈ F.locs)
    (h : s.pop8 k = .ok (v, t)) : s.Within F t := by
  obtain ⟨-, rfl⟩ := pop8_ok.mp h
  exact within_setSp s _ hsp

theorem within_pop16 {s t : State} {F : Footprint} {kh kl : ReadSlot} {w : Word} (hsp : ∀ l ∈ s.spLocs, l ∈ F.locs)
    (h : s.pop16 kh kl = .ok (w, t)) : s.Within F t := by
  obtain ⟨hi, lo, -, -, hr⟩ := pop16_ok.mp h
  cases hr
  exact within_setSp s _ hsp

theorem spLocs_congr {s t : State} (hc : t.chip = s.chip) : t.spLocs = s.spLocs := by simp only [State.spLocs, hc]

theorem pop_within {dst : Place} {s t : State} {F : Footprint} (h : pop dst s = .next t)
    (hl : F.locs = s.spLocs ++ s.locAt (s.dstAddr dst)) : s.Within F t := by
  obtain ⟨a, v, s1, u, ha, -, hpop, hwrite, rfl⟩ := pop_next.mp h
  have hmove : s.Within F s1 := within_pop8 (fun l h => hl ▸ List.mem_append_left _ h) hpop
  obtain ⟨-, rfl⟩ := pop8_ok.mp hpop
  refine (hmove.trans (within_writeReg ?_ hwrite)).trans (within_retire u F)
  rw [loc_setSp, hl]
  exact List.mem_append_right _ (locAt_ok ha)

theorem push_within {src : Place} {s t : State} {F : Footprint} (h : push src s = .next t)
    (hl : F.locs = s.spLocs ++ s.stackLocs s.pushAddrs8) : s.Within F t := by
  obtain ⟨a, v, u, -, -, -, hpush, rfl⟩ := push_next.mp h
  exact (within_push8 (fun l h => hl ▸ List.mem_append_left _ h) (fun l h => hl ▸ List.mem_append_right _ h)
    hpush).trans (within_retire u F)

theorem within_call {s u : State} {F : Footprint} {a : Word} (hl : F.locs = s.spLocs ++ s.stackLocs s.pushAddrs16)
    (hj : F.jumps = true) (h : s.call a = .ok u) : s.Within F u := by
  obtain ⟨p, hp, rfl⟩ := call_ok.mp h
  exact (within_push16 (fun l h => hl ▸ List.mem_append_left _ h) (fun l h => hl ▸ List.mem_append_right _ h)
    hp).trans (within_jump p hj a)

theorem execCall_IRR_within {dst : RegOp} {s t : State} {F : Footprint} (h : execCall_IRR dst s = .next t)
    (hl : F.locs = s.spLocs ++ s.stackLocs s.pushAddrs16) (hj : F.jumps = true) : s.Within F t := by
  refine within_finish (fun u hu => ?_) h
  obtain ⟨p, -, hp⟩ := bind_ok.mp hu
  split at hp
  · cases hp
  · obtain ⟨a, -, hcall⟩ := bind_ok.mp hp
    exact within_call hl hj hcall

theorem execRet_within {s t : State} {F : Footprint} (h : execRet s = .next t) (hsp : ∀ l ∈ s.spLocs, l ∈ F.locs)
    (hj : F.jumps = true) : s.Within F t := by
  refine within_finish (fun u hu => ?_) h
  simp only [bind_ok, pure, Except.pure, Except.ok.injEq] at hu
  obtain ⟨⟨a, s1⟩, hpop, rfl⟩ := hu
  exact (within_pop16 hsp hpop).trans (within_jump s1 hj a)

theorem within_leaveInterrupt {s t : State} {F : Footprint} (hl : F.locs = .flags :: .imr :: s.spLocs)
    (hj : F.jumps = true) (h : s.leaveInterrupt = .ok t) : s.Within F t := by
  obtain ⟨f, s1, w, s2, hf, hw, rfl⟩ := leaveInterrupt_ok.mp h
  have hsp : ∀ l ∈ s.spLocs, l ∈ F.locs := fun l h => hl ▸ List.mem_cons_of_mem _ (List.mem_cons_of_mem _ h)
  have w1 := within_pop8 hsp hf
  have wf : s1.Within F { s1 with flags := f } := within_store s1 (l := .flags) f (by simp [hl])
  have w2 : State.Within { s1 with flags := f } F s2 := within_pop16 (spLocs_congr w1.chip ▸ hsp) hw
  have wi : (s2.jump w).Within F { s2 with pc := w, imr := setBit s2.imr 7 true } :=
    within_store (s2.jump w) (l := .imr) _ (by simp [hl])
  exact w1.trans (wf.trans (w2.trans ((within_jump s2 hj w).trans wi)))

/-! ## Every instruction stays inside its footprint -/

theorem execWdh_within {s t : State} {F : Footprint} (h : execWdh s = .next t) (hu : s.freeZSV.Only F.flags) :
    s.Within F t := by
  obtain ⟨-, rfl⟩ := execWdh_next.mp h
  exact (within_withFlags s hu).trans (within_of_same rfl (fun l => by cases l <;> rfl) rfl rfl)

theorem execWdt_within {s t : State} {F : Footprint} (h : execWdt s = .next t) (hu : s.freeZSV.Only F.flags) :
    s.Within F t := by
  obtain ⟨-, rfl⟩ := execWdt_next.mp h
  exact (within_withFlags s hu).trans (within_of_same rfl (fun l => by cases l <;> rfl) rfl rfl)

theorem within_runState_retire (s : State) (F : Footprint) (r : RunState) :
    s.Within F { s with runState := r }.retire := within_of_same rfl (fun l => by cases l <;> rfl) rfl rfl

theorem exec_within {i : Instr} {s t : State} (h : exec i s = .next t) : s.Within (footprint i s) t := by
  cases i with
  | add_r_r | add_r_Ir | add_R_R | add_R_IR | add_R_IM | add_IR_IM | adc_r_r | adc_r_Ir | adc_R_R | adc_R_IR
  | adc_R_IM | adc_IR_IM | sub_r_r | sub_r_Ir | sub_R_R | sub_R_IR | sub_R_IM | sub_IR_IM | sbc_r_r | sbc_r_Ir
  | sbc_R_R | sbc_R_IR | sbc_R_IM | sbc_IR_IM => exact alu2_within h rfl fun _ _ _ => only_all _
  | or_r_r | or_r_Ir | or_R_R | or_R_IR | or_R_IM | or_IR_IM | and_r_r | and_r_Ir | and_R_R | and_R_IR | and_R_IM
  | and_IR_IM | xor_r_r | xor_r_Ir | xor_R_R | xor_R_IR | xor_R_IM | xor_IR_IM =>
    exact alu2_within h rfl fun _ _ _ => only_zsv rfl rfl rfl
  | tcm_r_r | tcm_r_Ir | tcm_R_R | tcm_R_IR | tcm_R_IM | tcm_IR_IM | tm_r_r | tm_r_Ir | tm_R_R | tm_R_IR | tm_R_IM
  | tm_IR_IM => exact test2_within h fun _ _ => only_zsv rfl rfl rfl
  | cp_r_r | cp_r_Ir | cp_R_R | cp_R_IR | cp_R_IM | cp_IR_IM => exact test2_within h fun _ _ => only_czsv rfl rfl
  | dec_R | dec_IR | inc_R | inc_IR | com_R | com_IR | inc_r =>
    exact alu1_within h rfl fun _ _ => only_zsv rfl rfl rfl
  | swap_R | swap_IR =>
    exact alu1_within (f := fun d _ => swapCore d (Config.freeFlag s.time .v)) h rfl fun _ _ => only_zsv rfl rfl rfl
  | rlc_R | rlc_IR | rl_R | rl_IR | rrc_R | rrc_IR | sra_R | sra_IR | rr_R | rr_IR =>
    exact alu1_within h rfl fun _ _ => only_czsv rfl rfl
  | da_R | da_IR => exact decimalAdjust_within h rfl fun _ _ _ => only_czsv rfl rfl
  | decw_RR | decw_IR | incw_RR | incw_IR => exact aluPair_within h rfl fun _ => only_zsv rfl rfl rfl
  | clr_R | clr_IR | ld_r_Ir | ld_Ir_r | ld_R_R | ld_R_IR | ld_R_IM | ld_IR_IM | ld_IR_R | ld_r_X | ld_X_r | ld_r_R
  | ld_r_IM => exact load_within h rfl
  | pop_R | pop_IR => exact pop_within h rfl
  | push_R | push_IR => exact push_within h rfl
  | rcf | scf | ccf => exact setFlags_within h (only_c _)
  | ldc_r_Irr | lde_r_Irr => exact loadByte_within h List.mem_cons_self
  | ldci_Ir_Irr | ldei_Ir_Irr => exact loadByteInc_within h rfl
  | ldc_Irr_r => exact storeByte_within within_writeProg h
  | lde_Irr_r => exact storeByte_within within_writeData h
  | ldci_Irr_Ir => exact storeByteInc_within within_writeProg h rfl
  | ldei_Irr_Ir => exact storeByteInc_within within_writeData h rfl
  | ld_R_r => exact execLd_R_r_within h List.mem_cons_self
  | jp_IRR => exact execJp_IRR_within h rfl
  | call_IRR => exact execCall_IRR_within h rfl rfl
  | call_DA => exact within_finish (fun _ => within_call rfl rfl) h
  | djnz_r_RA => exact execDjnz_r_RA_within h List.mem_cons_self rfl
  | jr_cc_RA | jp_cc_DA => exact within_finish_ok (within_jumpIf s rfl _ _) h
  | ret => exact execRet_within h (fun _ => id) rfl
  | iret => exact within_finish (fun _ => within_leaveInterrupt rfl rfl) h
  | srp_IM => exact within_finish_ok (within_store s (l := .rp) _ List.mem_cons_self) h
  | di | ei => exact within_finish_ok (within_store s (l := .imr) _ List.mem_cons_self) h
  | wdh => exact execWdh_within h (only_zsv rfl rfl rfl)
  | wdt => exact execWdt_within h (only_zsv rfl rfl rfl)
  | stop => obtain ⟨-, rfl⟩ := execStop_next.mp h; exact within_runState_retire s _ _
  | halt => obtain ⟨-, rfl⟩ := execHalt_next.mp h; exact within_runState_retire s _ _
  | nop => obtain rfl := execNop_next.mp h; exact within_of_same rfl (fun l => by cases l <;> rfl) rfl rfl

/-- Settles O57: every instruction stays inside its footprint, whose registers are `destLocs`. -/
theorem registerFrame : Obligations.RegisterFrame := fun _ _ _ h => (exec_within h).held

/-- Settles O58: the flags of the footprint are `flagsOf`. -/
theorem flagFrame : Obligations.FlagFrame := fun _ _ _ h => (exec_within h).flags

/-- What an instruction may change of the modes and the Watch-Dog, and that it leaves requests and schedule alone. -/
structure State.KeepsModes (s : State) (i : Instr) (t : State) : Prop where
  pending : t.pending = s.pending
  inputs : t.inputs = s.inputs
  runState : i ≠ .halt → i ≠ .stop → t.runState = s.runState
  watchDog : i ≠ .wdt → t.wdtEnabled = s.wdtEnabled ∧ t.wdtCount = s.wdtCount
  inHalt : i ≠ .wdh → t.wdtInHalt = s.wdtInHalt

theorem State.Retires.keepsModes {s t : State} (h : s.Retires t) (i : Instr) : s.KeepsModes i t := by
  obtain ⟨u, hu, rfl⟩ := h
  exact ⟨hu.pending, hu.inputs, fun _ _ => hu.runState, fun _ => ⟨hu.wdtEnabled, hu.wdtCount⟩, fun _ => hu.wdtInHalt⟩

theorem exec_keepsModes {i : Instr} {s t : State} (h : exec i s = .next t) : s.KeepsModes i t := by
  by_cases hi : changesControl i = true
  · obtain rfl | rfl | rfl | rfl | rfl := changesControl_iff.mp hi
    · obtain ⟨-, rfl⟩ := execWdh_next.mp h
      exact ⟨rfl, rfl, fun _ _ => rfl, fun _ => ⟨rfl, rfl⟩, fun hne => absurd rfl hne⟩
    · obtain ⟨-, rfl⟩ := execWdt_next.mp h
      exact ⟨rfl, rfl, fun _ _ => rfl, fun hne => absurd rfl hne, fun _ => rfl⟩
    · obtain ⟨-, rfl⟩ := execStop_next.mp h
      exact ⟨rfl, rfl, fun _ hne => absurd rfl hne, fun _ => ⟨rfl, rfl⟩, fun _ => rfl⟩
    · obtain ⟨-, rfl⟩ := execHalt_next.mp h
      exact ⟨rfl, rfl, fun hne => absurd rfl hne, fun _ => ⟨rfl, rfl⟩, fun _ => rfl⟩
    · obtain rfl := execNop_next.mp h
      exact ⟨rfl, rfl, fun _ _ => rfl, fun _ => ⟨rfl, rfl⟩, fun _ => rfl⟩
  · exact (exec_retires (Bool.not_eq_true _ ▸ hi) h).keepsModes i

/-- Settles O60: the part and the write history by the footprint, the modes by what retiring keeps. -/
theorem machineFrame : Obligations.MachineFrame := by
  intro i s t h
  have hm := exec_keepsModes h
  have hw := exec_within h
  exact ⟨hw.chip, hm.pending, hm.inputs, hm.runState, hm.watchDog, hm.inHalt, hw.deviceWrites⟩

theorem length_encode_le (i : Instr) : (encode i).length ≤ 3 := by cases i <;> exact Nat.le_of_ble_eq_true rfl

/-- Settles O7: the step runs the instruction with the PC past it, and only a control transfer has the PC in its footprint. -/
theorem pcAdvances : Obligations.PcAdvances := by
  intro s t i rest hr hturn hdec hj hstep
  rw [stepRunsDecoded s i rest hr hturn hdec] at hstep
  have hpc : t.pc = s.pc + BitVec.ofNat 16 (encode i).length := (exec_within hstep).pc hj
  have hlen := length_encode_le i
  rw [hpc, BitVec.toNat_add, BitVec.toNat_ofNat]
  omega

end Sys2Proof.Machine


/-! PROOFS of the family 20_memory.md: registers and memory bytes read back, the word a test places where the next instruction is
fetched, and what an instruction stores to either memory. -/

namespace Sys2Proof.Machine

/-! ## Read after write (20_memory.md R68, R69, R73) -/

/-- Settles O18: the two ways of a write, an entry put in and an entry taken out, read alike. -/
theorem memoryReadWrite : Obligations.MemoryReadWrite := fun _ a b v h => memRead_memWrite h a b v

/-- Whatever register is written, RP too, its address still reaches it: RP's own address is in no bank. -/
theorem loc_store_self (s : State) (a v : Byte) : (s.store (s.loc a) v).loc a = s.loc a := by
  by_cases ha : a = 0xFD
  · have hhigh : 16 ≤ a.toNat := by rw [ha]; decide
    rw [loc_of_high _ hhigh, loc_of_high _ hhigh]
  · exact loc_store_of_addr_ne s v ha a

theorem absent_store_self (s : State) (a v : Byte) : (s.store (s.loc a) v).absent a = s.absent a := by
  by_cases ha : a = 0xFD
  · have hhigh : 16 ≤ a.toNat := by rw [ha]; decide
    rw [absent_of_high _ hhigh, absent_of_high _ hhigh, State.store_chip]
  · exact absent_congr (s.store_chip _ v) (store_rp_of_addr_ne s v ha) a

/-- Settles O14: the write leaves the address at the register it reached, and that register holds the value. -/
theorem writeThenRead : Obligations.WriteThenRead := by
  intro s t a v k hwrite hdev
  obtain ⟨hpresent, rfl⟩ := writeReg_ok.mp hwrite
  refine readReg_ok.mpr ⟨(absent_store_self s a v).trans hpresent, ?_⟩
  rw [loc_store_self]
  exact s.valueAt_store_same k v hdev

/-! ## A table word where the next instruction is fetched (20_memory.md R62; log 18) -/

/-- The rule for a byte written, at the addresses the machine uses. -/
theorem memRead_memWrite_word {m : Mem} (h : memWf m = true) (a b : Word) (v : Byte) :
    memRead (memWrite m a.toNat v) b.toNat = if b = a then v else memRead m b.toNat := by
  simp only [memRead_memWrite h, BitVec.toNat_inj]

theorem progByte_withFetchWord {s : State} (h : memWf s.prog = true) (nbits w : Nat) (b : Word) :
    (s.withFetchWord nbits w).progByte b =
      if b = s.pc + 2 then (tableBytes nbits w).getD 2 0
      else if b = s.pc + 1 then (tableBytes nbits w).getD 1 0
      else if b = s.pc then (tableBytes nbits w).getD 0 0 else s.progByte b := by
  have h0 := memWf_memWrite s.pc.toNat ((tableBytes nbits w).getD 0 0) h s.pc.isLt
  have h1 := memWf_memWrite (s.pc + 1).toNat ((tableBytes nbits w).getD 1 0) h0 (s.pc + 1).isLt
  refine (memRead_memWrite_word h1 _ b _).trans ?_
  rw [memRead_memWrite_word h0, memRead_memWrite_word h]
  rfl

/-- The three addresses of a fetch differ even where they wrap, so no byte placed covers another. -/
theorem fetchBytes_withFetchWord {s : State} (h : memWf s.prog = true) (nbits w : Nat) :
    (s.withFetchWord nbits w).fetchBytes = tableBytes nbits w := by
  have h01 : s.pc ≠ s.pc + 1 := by bv_omega
  have h02 : s.pc ≠ s.pc + 2 := by bv_omega
  have h12 : s.pc + 1 ≠ s.pc + 2 := by bv_omega
  have hpc : (s.withFetchWord nbits w).pc = s.pc := rfl
  simp only [State.fetchBytes, hpc, progByte_withFetchWord h, if_neg h02, if_neg h01, if_neg h12, if_pos]
  rfl

theorem decodeTableWord_eq_some {nbits w : Nat} {i : Instr} :
    decodeTableWord nbits w = some i ↔ ∃ rest, decode (tableBytes nbits w) = .ok (i, rest) := by
  unfold decodeTableWord
  split
  · next j rest hdec => simp [hdec]
  · next hdec => simp [hdec]

/-- Settles O8: what is fetched is the word placed, and it is the CPU's turn. -/
theorem placedWordRuns : Obligations.PlacedWordRuns := by
  intro s nbits w i hwf _ hword
  obtain ⟨rest, hdec⟩ := decodeTableWord_eq_some.mp hword
  rw [← fetchBytes_withFetchWord hwf] at hdec
  exact ⟨rfl, stepRunsDecoded (s.withFetchWord nbits w) i rest rfl rfl hdec⟩

/-! ## Which bytes of a memory change -/

/-- A canonical memory `m` stays so as it becomes `n`, and no byte outside `as` changes. -/
def ChangesIn (as : List Word) (m n : Mem) : Prop :=
  memWf m = true → memWf n = true ∧ ∀ a : Word, a ∉ as → memRead n a.toNat = memRead m a.toNat

theorem ChangesIn.of_eq {as : List Word} {m n : Mem} (h : n = m) : ChangesIn as m n :=
  fun hm => ⟨h ▸ hm, fun _ _ => h ▸ rfl⟩

theorem ChangesIn.trans {as : List Word} {m n o : Mem} (h1 : ChangesIn as m n) (h2 : ChangesIn as n o) :
    ChangesIn as m o := by
  intro hm
  obtain ⟨hn, hmn⟩ := h1 hm
  obtain ⟨ho, hno⟩ := h2 hn
  exact ⟨ho, fun a ha => (hno a ha).trans (hmn a ha)⟩

theorem changesIn_memWrite {as : List Word} {a : Word} (ha : a ∈ as) (m : Mem) (v : Byte) :
    ChangesIn as m (memWrite m a.toNat v) := by
  refine fun hm => ⟨memWf_memWrite _ _ hm a.isLt, fun b hb => ?_⟩
  rw [memRead_memWrite_word hm]
  exact if_neg fun hba : b = a => hb (hba ▸ ha)

/-- From `s` to `t` program memory changes in the bytes `P` alone, and external data memory in the bytes `D`. -/
structure State.StoresIn (s : State) (P D : List Word) (t : State) : Prop where
  prog : ChangesIn P s.prog t.prog
  data : ChangesIn D s.data t.data

theorem State.StoresIn.trans {s t u : State} {P D : List Word} (h1 : s.StoresIn P D t) (h2 : t.StoresIn P D u) :
    s.StoresIn P D u := ⟨h1.prog.trans h2.prog, h1.data.trans h2.data⟩

section
variable {s t u : State} {P D : List Word}

/-! ## What the named operations store -/

theorem storesIn_of_same (hp : t.prog = s.prog) (hd : t.data = s.data) : s.StoresIn P D t :=
  ⟨.of_eq hp, .of_eq hd⟩

theorem storesIn_store (s : State) (l : RegLoc) (v : Byte) : s.StoresIn P D (s.store l v) :=
  storesIn_of_same (s.store_prog l v) (s.store_data l v)

theorem storesIn_setSp (s : State) (a : Word) : s.StoresIn P D (s.setSp a) :=
  storesIn_of_same (s.setSp_prog a) (s.setSp_data a)

theorem storesIn_jumpIf (s : State) (c : Bool) (a : Word) : s.StoresIn P D (if c then s.jump a else s) := by
  cases c <;> exact storesIn_of_same rfl rfl

theorem storesIn_writeReg {a v : Byte} (h : s.writeReg a v = .ok t) : s.StoresIn P D t := by
  obtain ⟨-, rfl⟩ := writeReg_ok.mp h
  exact storesIn_store s _ v

theorem storesIn_writeProg {a : Word} {v : Byte} (ha : a ∈ P) (h : s.writeProg a v = .ok t) : s.StoresIn P D t := by
  obtain ⟨-, -, rfl⟩ := writeProg_ok.mp h
  exact ⟨changesIn_memWrite ha _ v, .of_eq rfl⟩

theorem storesIn_writeData {a : Word} {v : Byte} (ha : a ∈ D) (h : s.writeData a v = .ok t) : s.StoresIn P D t := by
  obtain ⟨-, rfl⟩ := writeData_ok.mp h
  exact ⟨.of_eq rfl, changesIn_memWrite ha _ v⟩

theorem storesIn_stackWrite {a : Word} {v : Byte} (ha : s.chip.stackExternal = true → a ∈ D)
    (h : s.stackWrite a v = .ok t) : s.StoresIn P D t := by
  obtain ⟨hx, -, rfl⟩ | ⟨-, -, rfl⟩ := stackWrite_ok.mp h
  · exact ⟨.of_eq rfl, changesIn_memWrite (ha hx) _ v⟩
  · exact storesIn_store s _ v

theorem mem_stackBytes {as : List Word} {a : Word} (ha : a ∈ as) (hx : s.chip.stackExternal = true) :
    a ∈ s.stackBytes as := by rwa [State.stackBytes, if_pos hx]

theorem storesIn_push8 {v : Byte} (hD : ∀ a ∈ s.stackBytes s.pushAddrs8, a ∈ D) (h : s.push8 v = .ok t) :
    s.StoresIn P D t := by
  refine (storesIn_setSp s _).trans (storesIn_stackWrite (fun hx => ?_) (push8_ok.mp h))
  rw [State.setSp_chip] at hx
  exact hD _ (mem_stackBytes (List.mem_singleton_self _) hx)

theorem storesIn_push16 {w : Word} (hD : ∀ a ∈ s.stackBytes s.pushAddrs16, a ∈ D) (h : s.push16 w = .ok t) :
    s.StoresIn P D t := by
  obtain ⟨u, hhi, hlo⟩ := push16_ok.mp h
  have hchip : u.chip = s.chip := (keepsControl_stackWrite hhi).chip.trans (s.setSp_chip _)
  have hhigh : (s.setSp (s.stackAddr (s.sp - 2))).StoresIn P D u := by
    refine storesIn_stackWrite (fun hx => ?_) hhi
    rw [State.setSp_chip] at hx
    exact hD _ (mem_stackBytes List.mem_cons_self hx)
  have hlow : u.StoresIn P D t := by
    refine storesIn_stackWrite (fun hx => ?_) hlo
    rw [hchip] at hx
    exact hD _ (mem_stackBytes (List.mem_cons_of_mem _ (List.mem_singleton_self _)) hx)
  exact (storesIn_setSp s _).trans (hhigh.trans hlow)

theorem storesIn_pop8 {k : ReadSlot} {v : Byte} (h : s.pop8 k = .ok (v, t)) : s.StoresIn P D t := by
  obtain ⟨-, rfl⟩ := pop8_ok.mp h
  exact storesIn_setSp s _

theorem storesIn_pop16 {kh kl : ReadSlot} {w : Word} (h : s.pop16 kh kl = .ok (w, t)) : s.StoresIn P D t := by
  obtain ⟨hi, lo, -, -, hr⟩ := pop16_ok.mp h
  cases hr
  exact storesIn_setSp s _

theorem storesIn_call {a : Word} (hD : ∀ a ∈ s.stackBytes s.pushAddrs16, a ∈ D) (h : s.call a = .ok t) :
    s.StoresIn P D t := by
  obtain ⟨p, hp, rfl⟩ := call_ok.mp h
  exact (storesIn_push16 hD hp).trans (storesIn_of_same rfl rfl)

theorem storesIn_leaveInterrupt (h : s.leaveInterrupt = .ok t) : s.StoresIn P D t := by
  obtain ⟨f, s1, w, s2, hf, hw, rfl⟩ := leaveInterrupt_ok.mp h
  have hflags : s.StoresIn P D { s1 with flags := f } := (storesIn_pop8 hf).trans (storesIn_of_same rfl rfl)
  exact hflags.trans ((storesIn_pop16 hw).trans (storesIn_of_same rfl rfl))

theorem storesIn_incPointers {n m : Nibble} {ra : Byte} {a : Word} (h : s.incPointers n m ra a = .ok t) :
    s.StoresIn P D t := by
  obtain ⟨s1, s2, h1, h2, h3⟩ := incPointers_ok.mp h
  exact (storesIn_writeReg h1).trans ((storesIn_writeReg h2).trans (storesIn_writeReg h3))

/-! ## What the shapes of instruction store -/

theorem storesIn_retire (h : s.StoresIn P D t) : s.StoresIn P D t.retire := ⟨h.prog, h.data⟩

theorem storesIn_finish {r : Res State} (hr : ∀ u, r = .ok u → s.StoresIn P D u) (h : finish r = .next t) :
    s.StoresIn P D t := by
  obtain ⟨u, hu, rfl⟩ := finish_next.mp h
  exact storesIn_retire (hr u hu)

theorem storesIn_finish_ok (hu : s.StoresIn P D u) (h : finish (.ok u) = .next t) : s.StoresIn P D t := by
  cases h
  exact storesIn_retire hu

theorem alu2_storesIn {f : Byte → Byte → Bool → Byte × FlagUpd} {dst : Place} {src : Source}
    (h : alu2 f dst src s = .next t) : s.StoresIn P D t := by
  obtain ⟨a, v, d, -, -, -, -, rfl⟩ := alu2_next.mp h
  exact (storesIn_store s _ _).trans (storesIn_of_same rfl rfl)

theorem test2_storesIn {f : Byte → Byte → Byte × FlagUpd} {dst : Place} {src : Source}
    (h : test2 f dst src s = .next t) : s.StoresIn P D t := by
  obtain ⟨a, v, d, -, -, -, rfl⟩ := test2_next.mp h
  exact storesIn_of_same rfl rfl

theorem alu1_storesIn {f : Byte → Bool → Byte × FlagUpd} {dst : Place} (h : alu1 f dst s = .next t) :
    s.StoresIn P D t := by
  obtain ⟨a, d, -, -, -, rfl⟩ := alu1_next.mp h
  exact (storesIn_store s _ _).trans (storesIn_of_same rfl rfl)

theorem decimalAdjust_storesIn {dst : Place} (h : decimalAdjust dst s = .next t) : s.StoresIn P D t := by
  obtain ⟨a, d, row, -, -, -, -, rfl⟩ := decimalAdjust_next.mp h
  exact (storesIn_store s _ _).trans (storesIn_of_same rfl rfl)

theorem aluPair_storesIn {f : Word → Word × FlagUpd} {p : Res Byte} (h : aluPair f p s = .next t) :
    s.StoresIn P D t := by
  obtain ⟨a, w, -, -, -, -, s1, s2, hhi, hlo, rfl⟩ := aluPair_next.mp h
  exact (storesIn_writeReg hhi).trans ((storesIn_writeReg hlo).trans (storesIn_of_same rfl rfl))

theorem load_storesIn {dst : Place} {src : Source} (h : load dst src s = .next t) : s.StoresIn P D t := by
  obtain ⟨a, v, -, -, -, rfl⟩ := load_next.mp h
  exact storesIn_retire (storesIn_store s _ v)

theorem setFlags_storesIn {f : FlagUpd} (h : setFlags f s = .next t) : s.StoresIn P D t := by
  obtain rfl := setFlags_next.mp h
  exact storesIn_of_same rfl rfl

theorem pop_storesIn {dst : Place} (h : pop dst s = .next t) : s.StoresIn P D t := by
  obtain ⟨a, v, s1, u, -, -, hpop, hwrite, rfl⟩ := pop_next.mp h
  exact storesIn_retire ((storesIn_pop8 hpop).trans (storesIn_writeReg hwrite))

theorem push_storesIn {src : Place} (h : push src s = .next t) : s.StoresIn P (s.stackBytes s.pushAddrs8) t := by
  obtain ⟨a, v, u, -, -, -, hpush, rfl⟩ := push_next.mp h
  exact storesIn_retire (storesIn_push8 (fun _ => id) hpush)

theorem loadByte_storesIn {read : State → Word → Res Byte} {n m : Nibble} (h : loadByte read n m s = .next t) :
    s.StoresIn P D t := by
  obtain ⟨a, v, -, -, -, rfl⟩ := loadByte_next.mp h
  exact storesIn_retire (storesIn_store s _ v)

theorem loadByteInc_storesIn {read : State → Word → Res Byte} {n m : Nibble} (h : loadByteInc read n m s = .next t) :
    s.StoresIn P D t := by
  obtain ⟨a, ra, v, s1, u, -, -, -, -, -, hwrite, hinc, rfl⟩ := loadByteInc_next.mp h
  exact storesIn_retire ((storesIn_writeReg hwrite).trans (storesIn_incPointers hinc))

theorem mem_pairTarget {m : Nibble} {a : Word} : a ∈ s.pairTarget m ↔ s.readWrPair m = .ok a := by
  unfold State.pairTarget
  split
  · next b hb => simp [hb, eq_comm]
  · next hb => simp [hb]

theorem storeByte_storesIn {write : State → Word → Byte → Res State} {n m : Nibble}
    (hw : ∀ {a v u}, a ∈ s.pairTarget m → write s a v = .ok u → s.StoresIn P D u)
    (h : storeByte write n m s = .next t) : s.StoresIn P D t := by
  obtain ⟨a, v, u, ha, -, hwrite, rfl⟩ := storeByte_next.mp h
  exact storesIn_retire (hw (mem_pairTarget.mpr ha) hwrite)

theorem storeByteInc_storesIn {write : State → Word → Byte → Res State} {n m : Nibble}
    (hw : ∀ {a v u}, a ∈ s.pairTarget m → write s a v = .ok u → s.StoresIn P D u)
    (h : storeByteInc write n m s = .next t) : s.StoresIn P D t := by
  obtain ⟨a, ra, v, s1, u, ha, -, -, -, hwrite, hinc, rfl⟩ := storeByteInc_next.mp h
  exact storesIn_retire ((hw (mem_pairTarget.mpr ha) hwrite).trans (storesIn_incPointers hinc))

theorem execLd_R_r_storesIn {dst : Byte} {src : Nibble} (h : execLd_R_r dst src s = .next t) : s.StoresIn P D t := by
  refine storesIn_finish (fun u hu => ?_) h
  split at hu
  · cases hu
  · obtain ⟨v, -, hwrite⟩ := bind_ok.mp hu
    exact storesIn_writeReg hwrite

theorem execJp_IRR_storesIn {dst : RegOp} (h : execJp_IRR dst s = .next t) : s.StoresIn P D t := by
  refine storesIn_finish (fun u hu => ?_) h
  simp only [bind_ok, pure, Except.pure, Except.ok.injEq] at hu
  obtain ⟨p, -, a, -, rfl⟩ := hu
  exact storesIn_of_same rfl rfl

theorem execCall_IRR_storesIn {dst : RegOp} (h : execCall_IRR dst s = .next t) :
    s.StoresIn P (s.stackBytes s.pushAddrs16) t := by
  refine storesIn_finish (fun u hu => ?_) h
  obtain ⟨p, -, hp⟩ := bind_ok.mp hu
  split at hp
  · cases hp
  · obtain ⟨a, -, hcall⟩ := bind_ok.mp hp
    exact storesIn_call (fun _ => id) hcall

theorem execDjnz_r_RA_storesIn {r : Nibble} {dst : Byte} (h : execDjnz_r_RA r dst s = .next t) : s.StoresIn P D t := by
  refine storesIn_finish (fun u hu => ?_) h
  split at hu
  · cases hu
  · simp only [bind_ok, pure, Except.pure, Except.ok.injEq] at hu
    obtain ⟨x, -, s1, hwrite, rfl⟩ := hu
    exact (storesIn_writeReg hwrite).trans (storesIn_jumpIf s1 _ _)

theorem execRet_storesIn (h : execRet s = .next t) : s.StoresIn P D t := by
  refine storesIn_finish (fun u hu => ?_) h
  simp only [bind_ok, pure, Except.pure, Except.ok.injEq] at hu
  obtain ⟨⟨a, s1⟩, hpop, rfl⟩ := hu
  exact (storesIn_pop16 hpop).trans (storesIn_of_same rfl rfl)

/-- Every instruction stores to the bytes the claims list for it: a store through a pair to the pair's address, a push to the
stack's (20_memory.md R72; 10_state.md R32). -/
theorem exec_storesIn {i : Instr} (h : exec i s = .next t) : s.StoresIn (progStores i s) (dataStores i s) t := by
  cases i with
  | add_r_r | add_r_Ir | add_R_R | add_R_IR | add_R_IM | add_IR_IM | adc_r_r | adc_r_Ir | adc_R_R | adc_R_IR
  | adc_R_IM | adc_IR_IM | sub_r_r | sub_r_Ir | sub_R_R | sub_R_IR | sub_R_IM | sub_IR_IM | sbc_r_r | sbc_r_Ir
  | sbc_R_R | sbc_R_IR | sbc_R_IM | sbc_IR_IM | or_r_r | or_r_Ir | or_R_R | or_R_IR | or_R_IM | or_IR_IM | and_r_r
  | and_r_Ir | and_R_R | and_R_IR | and_R_IM | and_IR_IM | xor_r_r | xor_r_Ir | xor_R_R | xor_R_IR | xor_R_IM
  | xor_IR_IM => exact alu2_storesIn h
  | tcm_r_r | tcm_r_Ir | tcm_R_R | tcm_R_IR | tcm_R_IM | tcm_IR_IM | tm_r_r | tm_r_Ir | tm_R_R | tm_R_IR | tm_R_IM
  | tm_IR_IM | cp_r_r | cp_r_Ir | cp_R_R | cp_R_IR | cp_R_IM | cp_IR_IM => exact test2_storesIn h
  | dec_R | dec_IR | rlc_R | rlc_IR | inc_R | inc_IR | com_R | com_IR | rl_R | rl_IR | rrc_R | rrc_IR | sra_R | sra_IR
  | rr_R | rr_IR | inc_r => exact alu1_storesIn h
  | swap_R | swap_IR => exact alu1_storesIn (f := fun d _ => swapCore d (Config.freeFlag s.time .v)) h
  | da_R | da_IR => exact decimalAdjust_storesIn h
  | decw_RR | decw_IR | incw_RR | incw_IR => exact aluPair_storesIn h
  | clr_R | clr_IR | ld_r_Ir | ld_Ir_r | ld_R_R | ld_R_IR | ld_R_IM | ld_IR_IM | ld_IR_R | ld_r_X | ld_X_r | ld_r_R
  | ld_r_IM => exact load_storesIn h
  | pop_R | pop_IR => exact pop_storesIn h
  | push_R | push_IR => exact push_storesIn h
  | rcf | scf | ccf => exact setFlags_storesIn h
  | ldc_r_Irr | lde_r_Irr => exact loadByte_storesIn h
  | ldci_Ir_Irr | ldei_Ir_Irr => exact loadByteInc_storesIn h
  | ldc_Irr_r => exact storeByte_storesIn storesIn_writeProg h
  | lde_Irr_r => exact storeByte_storesIn storesIn_writeData h
  | ldci_Irr_Ir => exact storeByteInc_storesIn storesIn_writeProg h
  | ldei_Irr_Ir => exact storeByteInc_storesIn storesIn_writeData h
  | ld_R_r => exact execLd_R_r_storesIn h
  | jp_IRR => exact execJp_IRR_storesIn h
  | call_IRR => exact execCall_IRR_storesIn h
  | call_DA => exact storesIn_finish (fun _ => storesIn_call fun _ => id) h
  | djnz_r_RA => exact execDjnz_r_RA_storesIn h
  | jr_cc_RA | jp_cc_DA => exact storesIn_finish_ok (storesIn_jumpIf s _ _) h
  | ret => exact execRet_storesIn h
  | iret => exact storesIn_finish (fun _ => storesIn_leaveInterrupt) h
  | srp_IM | di | ei => cases h; exact storesIn_of_same rfl rfl
  | wdh => obtain ⟨-, rfl⟩ := execWdh_next.mp h; exact storesIn_of_same rfl rfl
  | wdt => obtain ⟨-, rfl⟩ := execWdt_next.mp h; exact storesIn_of_same rfl rfl
  | stop => obtain ⟨-, rfl⟩ := execStop_next.mp h; exact storesIn_of_same rfl rfl
  | halt => obtain ⟨-, rfl⟩ := execHalt_next.mp h; exact storesIn_of_same rfl rfl
  | nop => obtain rfl := execNop_next.mp h; exact storesIn_of_same rfl rfl

/-! ## Program memory along a step (20_memory.md R60, R72, R76) -/

/-- Interrupt entry stores to the stack alone (60_exceptions.md R285). -/
theorem takeInterrupt_prog {n : Nat} (h : takeInterrupt n s = .next t) : ChangesIn [] s.prog t.prog := by
  obtain ⟨s1, s2, hpc, hflags, rfl⟩ := enterInterrupt_ok.mp (takeInterrupt_next.mp h)
  exact (storesIn_push16 (fun _ => id) hpc).prog.trans (storesIn_push8 (fun _ => id) hflags).prog

theorem haltStep_prog (h : haltStep s = .next t) : ChangesIn [] s.prog t.prog := by
  unfold haltStep at h
  split at h
  · exact takeInterrupt_prog h
  · cases h; exact .of_eq rfl

theorem tickWatchDog_prog (h : tickWatchDog s = .next t) : t.prog = s.prog := by
  cases h
  split_ifs
  · exact s.resetEvent_prog
  · rfl
  · rfl

theorem environment_prog {e : EnvEvent} (h : environment e s = .next t) : ChangesIn [] s.prog t.prog := by
  cases e with
  | request n =>
    cases h
    split_ifs <;> exact .of_eq rfl
  | accept n =>
    simp only [environment, acceptRequest] at h
    split at h
    · exact takeInterrupt_prog h
    · cases h; exact .of_eq rfl
  | wdtTick => exact .of_eq (tickWatchDog_prog h)
  | reset => cases h; exact .of_eq s.resetEvent_prog

theorem fetchInstr_ok {i : Instr} : s.fetchInstr = .ok i ↔ ∃ rest, decode s.fetchBytes = .ok (i, rest) := by
  unfold State.fetchInstr
  split
  · next j rest hdec => simp [hdec]
  · next hdec => simp [hdec]

/-- A CPU that changes a byte of program memory runs, and executes an instruction that stores there. -/
theorem cpuStep_progByte_ne {a : Word} (hwf : memWf s.prog = true) (h : cpuStep s = .next t)
    (hne : t.progByte a ≠ s.progByte a) :
    s.runState = .run ∧ ∃ i rest, decode s.fetchBytes = .ok (i, rest) ∧ a ∈ progStores i s.advance := by
  have hkept : ∀ {P}, ChangesIn P s.prog t.prog → a ∈ P := fun hP => by_contra fun ha => hne ((hP hwf).2 a ha)
  match hr : s.runState with
  | .run =>
    obtain ⟨i, hfetch, hexec⟩ := cpuStep_run_next hr h
    obtain ⟨rest, hdec⟩ := fetchInstr_ok.mp hfetch
    exact ⟨rfl, i, rest, hdec, hkept (exec_storesIn hexec).prog⟩
  | .halt =>
    simp only [cpuStep, hr] at h
    cases hkept (haltStep_prog h)
  | .stop =>
    simp only [cpuStep, hr, stopStep] at h
    cases h
    exact absurd rfl hne

/-- Only the two store forms of LDC and LDCI store to program memory, and where their pair points. -/
theorem mem_progStores {i : Instr} {a : Word} : a ∈ progStores i s ↔
    ∃ m n, s.readWrPair m = .ok a ∧ (i = .ldc_Irr_r m n ∨ i = .ldci_Irr_Ir m n) := by
  constructor
  · intro h
    unfold progStores at h
    split at h
    · next m n => exact ⟨m, n, mem_pairTarget.mp h, .inl rfl⟩
    · next m n => exact ⟨m, n, mem_pairTarget.mp h, .inr rfl⟩
    · cases h
  · rintro ⟨m, n, hpair, rfl | rfl⟩ <;> exact mem_pairTarget.mpr hpair

end

/-- Settles O11: no event of the environment and no stopped CPU changes program memory, and an instruction changes it only
where it stores. -/
theorem programMemoryChanges : Obligations.ProgramMemoryChanges := by
  intro s t a hwf hstep hne
  obtain hcpu | ⟨e, rest, henv⟩ := cpuTurn_or_env s
  · rw [step_of_cpuTurn hcpu] at hstep
    obtain ⟨hrun, i, rest, hdec, hstores⟩ := cpuStep_progByte_ne (s := s.tailInputs) hwf hstep hne
    obtain ⟨m, n, hpair, hform⟩ := mem_progStores.mp hstores
    refine ⟨hrun, hcpu, n, m, rest, hpair, ?_⟩
    obtain rfl | rfl := hform
    · exact .inl hdec
    · exact .inr hdec
  · rw [step_of_env henv] at hstep
    exact absurd ((environment_prog hstep hwf).2 a List.not_mem_nil) hne

end Sys2Proof.Machine

/-! PROOFS of the family 30_encoding.md: the decoder and the encoder undo each other (R91 to R106), the instruction's length and
the unassigned opcodes by the first byte (R107, R109), the condition codes (R108), and odd register pairs (R111). -/

namespace Sys2Proof

/-! ## Decoding an encoding, by its format (30_encoding.md R91 to R101) -/

section

variable {b0 : Byte} (rest : List Byte)

theorem decode_f1 {i : Instr} (h : reader b0 = f1 i) : decode (b0 :: rest) = .ok (i, rest) := by
  rw [decode, h, f1]

theorem decode_f2 {k : Byte → Instr} (h : reader b0 = f2 k) (b1 : Byte) :
    decode (b0 :: b1 :: rest) = .ok (k b1, rest) := by
  rw [decode, h, f2]

theorem decode_f3 {k : Byte → Byte → Instr} (h : reader b0 = f3 k) (b1 b2 : Byte) :
    decode (b0 :: b1 :: b2 :: rest) = .ok (k b1 b2, rest) := by
  rw [decode, h, f3]

theorem decode_f2R {k : RegOp → Instr} {o : RegOp} (h : reader b0 = f2R k) (ho : o.encodable = true) :
    decode (b0 :: o.toByte :: rest) = .ok (k o, rest) := by
  rw [decode_f2 rest h, ofByte_toByte ho]

theorem decode_f2n {k : Nibble → Nibble → Instr} (h : reader b0 = f2n k) (n m : Nibble) :
    decode (b0 :: nibbles n m :: rest) = .ok (k n m, rest) := by
  rw [decode_f2 rest h, hiNib_nibbles, loNib_nibbles]

/-- The store forms of LDC, LDCI, LDE and LDEI keep their destination in the low nibble (30_encoding.md R91). -/
theorem decode_f2n_swapped {k : Nibble → Nibble → Instr} (h : reader b0 = f2n fun n m => k m n) (n m : Nibble) :
    decode (b0 :: nibbles n m :: rest) = .ok (k m n, rest) := decode_f2n rest h n m

theorem decode_f3s {k : RegOp → RegOp → Instr} {d v : RegOp} (h : reader b0 = f3s k)
    (ho : (d.encodable && v.encodable) = true) : decode (b0 :: v.toByte :: d.toByte :: rest) = .ok (k d v, rest) := by
  obtain ⟨hd, hv⟩ := Bool.and_eq_true_iff.mp ho
  rw [decode_f3 rest h, ofByte_toByte hd, ofByte_toByte hv]

theorem decode_f3i {k : RegOp → Byte → Instr} {d : RegOp} (h : reader b0 = f3i k) (hd : d.encodable = true) (v : Byte) :
    decode (b0 :: d.toByte :: v :: rest) = .ok (k d v, rest) := by
  rw [decode_f3 rest h, ofByte_toByte hd]

theorem decode_f3x {k : Nibble → Nibble → Byte → Instr} (h : reader b0 = f3x k) (n m : Nibble) (o : Byte) :
    decode (b0 :: nibbles n m :: o :: rest) = .ok (k n m o, rest) := by
  rw [decode_f3 rest h, hiNib_nibbles, loNib_nibbles]

theorem decode_f3a {k : Word → Instr} (h : reader b0 = f3a k) (w : Word) :
    decode (b0 :: hiByte w :: loByte w :: rest) = .ok (k w, rest) := by
  rw [decode_f3 rest h, word16_hiByte_loByte]

end

theorem reader_toNibble_B (cc : Cond) : reader (nibbles cc.toNibble 0xB) = f2 (.jr_cc_RA cc) := by
  rw [reader_nibbles_B, ofNibble_toNibble]

theorem reader_toNibble_D (cc : Cond) : reader (nibbles cc.toNibble 0xD) = f3a (.jp_cc_DA cc) := by
  rw [reader_nibbles_D, ofNibble_toNibble]

/-- Settles O1: by the instruction's format; the opcode map gives its first byte the reader of that format. -/
theorem decodeEncode : Obligations.DecodeEncode := by
  intro i rest hi
  cases i with
  | add_r_r d v | add_r_Ir d v | adc_r_r d v | adc_r_Ir d v | sub_r_r d v | sub_r_Ir d v | sbc_r_r d v | sbc_r_Ir d v
  | or_r_r d v | or_r_Ir d v | and_r_r d v | and_r_Ir d v | tcm_r_r d v | tcm_r_Ir d v | tm_r_r d v | tm_r_Ir d v
  | cp_r_r d v | cp_r_Ir d v | xor_r_r d v | xor_r_Ir d v | ld_r_Ir d v | ld_Ir_r d v | ldc_r_Irr d v | ldci_Ir_Irr d v
  | lde_r_Irr d v | ldei_Ir_Irr d v => exact decode_f2n rest rfl d v
  | ldc_Irr_r d v | ldci_Irr_Ir d v | lde_Irr_r d v | ldei_Irr_Ir d v => exact decode_f2n_swapped rest rfl v d
  | add_R_R | add_R_IR | adc_R_R | adc_R_IR | sub_R_R | sub_R_IR | sbc_R_R | sbc_R_IR | or_R_R | or_R_IR | and_R_R
  | and_R_IR | tcm_R_R | tcm_R_IR | tm_R_R | tm_R_IR | cp_R_R | cp_R_IR | xor_R_R | xor_R_IR | ld_R_R | ld_R_IR
  | ld_IR_R => exact decode_f3s rest rfl hi
  | add_R_IM _ v | add_IR_IM _ v | adc_R_IM _ v | adc_IR_IM _ v | sub_R_IM _ v | sub_IR_IM _ v | sbc_R_IM _ v
  | sbc_IR_IM _ v | or_R_IM _ v | or_IR_IM _ v | and_R_IM _ v | and_IR_IM _ v | tcm_R_IM _ v | tcm_IR_IM _ v
  | tm_R_IM _ v | tm_IR_IM _ v | cp_R_IM _ v | cp_IR_IM _ v | xor_R_IM _ v | xor_IR_IM _ v | ld_R_IM _ v
  | ld_IR_IM _ v => exact decode_f3i rest rfl hi v
  | dec_R | dec_IR | rlc_R | rlc_IR | inc_R | inc_IR | da_R | da_IR | pop_R | pop_IR | com_R | com_IR | push_R | push_IR
  | decw_RR | decw_IR | rl_R | rl_IR | incw_RR | incw_IR | clr_R | clr_IR | rrc_R | rrc_IR | sra_R | sra_IR | rr_R
  | rr_IR | swap_R | swap_IR | jp_IRR | call_IRR => exact decode_f2R rest rfl hi
  | ld_r_X d x o => exact decode_f3x rest rfl d x o
  | ld_X_r x o v => exact decode_f3x rest (k := fun r x o => .ld_X_r x o r) rfl v x o
  | srp_IM v => exact decode_f2 rest rfl v
  | call_DA w => exact decode_f3a rest rfl w
  | ld_r_R d => exact decode_f2R rest (reader_nibbles_8 d) hi
  | ld_R_r d v => exact decode_f2 rest (reader_nibbles_9 v) d
  | djnz_r_RA r d => exact decode_f2 rest (reader_nibbles_A r) d
  | jr_cc_RA cc d => exact decode_f2 rest (reader_toNibble_B cc) d
  | ld_r_IM d v => exact decode_f2 rest (reader_nibbles_C d) v
  | jp_cc_DA cc w => exact decode_f3a rest (reader_toNibble_D cc) w
  | inc_r d => exact decode_f1 rest (reader_nibbles_E d)
  | wdh | wdt | stop | halt | di | ei | ret | iret | rcf | scf | ccf | nop => exact decode_f1 rest rfl

/-! ## What the opcode map gives a first byte (30_encoding.md R106) -/

/-- What the opcode map may hold for the first byte `b0`: nothing, or a reader of as many operand bytes as the format has, whose
instruction is encodable and encodes to `b0` and those bytes. -/
inductive MapEntry (b0 : Byte) : Reader → Prop where
  | rejected : MapEntry b0 (unassigned b0)
  | noOperand {i : Instr} (henc : HasEncoding i = true) (hbytes : encode i = [b0]) : MapEntry b0 (f1 i)
  | oneByte {k : Byte → Instr} (henc : ∀ b1, HasEncoding (k b1) = true) (hbytes : ∀ b1, encode (k b1) = [b0, b1]) :
      MapEntry b0 (f2 k)
  | twoBytes {k : Byte → Byte → Instr} (henc : ∀ b1 b2, HasEncoding (k b1 b2) = true)
      (hbytes : ∀ b1 b2, encode (k b1 b2) = [b0, b1, b2]) : MapEntry b0 (f3 k)

section

variable {b0 : Byte}

theorem mapEntry_f2R {k : RegOp → Instr} (henc : ∀ o, HasEncoding (k o) = o.encodable)
    (hbytes : ∀ o, encode (k o) = [b0, o.toByte]) : MapEntry b0 (f2R k) :=
  .oneByte (fun b1 => by rw [henc, encodable_ofByte]) fun b1 => by rw [hbytes, toByte_ofByte]

theorem mapEntry_f2n {k : Nibble → Nibble → Instr} (henc : ∀ n m, HasEncoding (k n m) = true)
    (hbytes : ∀ n m, encode (k n m) = [b0, nibbles n m]) : MapEntry b0 (f2n k) :=
  .oneByte (fun _ => henc _ _) fun b1 => by rw [hbytes, nibbles_hiNib_loNib]

theorem mapEntry_f3s {k : RegOp → RegOp → Instr} (henc : ∀ d v, HasEncoding (k d v) = (d.encodable && v.encodable))
    (hbytes : ∀ d v, encode (k d v) = [b0, v.toByte, d.toByte]) : MapEntry b0 (f3s k) :=
  .twoBytes (fun b1 b2 => by rw [henc, encodable_ofByte, encodable_ofByte, Bool.and_self]) fun b1 b2 => by
    rw [hbytes, toByte_ofByte, toByte_ofByte]

theorem mapEntry_f3i {k : RegOp → Byte → Instr} (henc : ∀ d v, HasEncoding (k d v) = d.encodable)
    (hbytes : ∀ d v, encode (k d v) = [b0, d.toByte, v]) : MapEntry b0 (f3i k) :=
  .twoBytes (fun b1 b2 => by rw [henc, encodable_ofByte]) fun b1 b2 => by rw [hbytes, toByte_ofByte]

theorem mapEntry_f3x {k : Nibble → Nibble → Byte → Instr} (henc : ∀ n m o, HasEncoding (k n m o) = true)
    (hbytes : ∀ n m o, encode (k n m o) = [b0, nibbles n m, o]) : MapEntry b0 (f3x k) :=
  .twoBytes (fun _ _ => henc _ _ _) fun b1 b2 => by rw [hbytes, nibbles_hiNib_loNib]

theorem mapEntry_f3a {k : Word → Instr} (henc : ∀ w, HasEncoding (k w) = true)
    (hbytes : ∀ w, encode (k w) = [b0, hiByte w, loByte w]) : MapEntry b0 (f3a k) :=
  .twoBytes (fun _ _ => henc _) fun b1 b2 => by rw [hbytes, hiByte_word16, loByte_word16]

theorem mapEntry_decodeCol0 (hlo : (loNib b0).toNat = 0) : MapEntry b0 (decodeCol0 b0) := by
  unfold decodeCol0
  split
  case h_17 => exact .rejected
  all_goals
    obtain rfl := eq_of_nibbles ‹_› hlo
    exact mapEntry_f2R (fun _ => rfl) fun _ => rfl

theorem mapEntry_decodeCol1 (hlo : (loNib b0).toNat = 1) : MapEntry b0 (decodeCol1 b0) := by
  unfold decodeCol1
  split
  case h_17 => exact .rejected
  all_goals obtain rfl := eq_of_nibbles ‹_› hlo
  case h_4 => exact .oneByte (fun _ => rfl) fun _ => rfl
  all_goals exact mapEntry_f2R (fun _ => rfl) fun _ => rfl

theorem mapEntry_decodeCol2 (hlo : (loNib b0).toNat = 2) : MapEntry b0 (decodeCol2 b0) := by
  unfold decodeCol2
  split
  case h_15 => exact .rejected
  all_goals
    obtain rfl := eq_of_nibbles ‹_› hlo
    exact mapEntry_f2n (fun _ _ => rfl) fun _ _ => rfl

theorem mapEntry_decodeCol3 (hlo : (loNib b0).toNat = 3) : MapEntry b0 (decodeCol3 b0) := by
  unfold decodeCol3
  split
  case h_17 => exact .rejected
  all_goals
    obtain rfl := eq_of_nibbles ‹_› hlo
    exact mapEntry_f2n (fun _ _ => rfl) fun _ _ => rfl

theorem mapEntry_decodeCol4 (hlo : (loNib b0).toNat = 4) : MapEntry b0 (decodeCol4 b0) := by
  unfold decodeCol4
  split
  case h_13 => exact .rejected
  all_goals obtain rfl := eq_of_nibbles ‹_› hlo
  case h_11 => exact mapEntry_f2R (fun _ => rfl) fun _ => rfl
  all_goals exact mapEntry_f3s (fun _ _ => rfl) fun _ _ => rfl

theorem mapEntry_decodeCol5 (hlo : (loNib b0).toNat = 5) : MapEntry b0 (decodeCol5 b0) := by
  unfold decodeCol5
  split
  case h_13 => exact .rejected
  all_goals
    obtain rfl := eq_of_nibbles ‹_› hlo
    exact mapEntry_f3s (fun _ _ => rfl) fun _ _ => rfl

theorem mapEntry_decodeCol6 (hlo : (loNib b0).toNat = 6) : MapEntry b0 (decodeCol6 b0) := by
  unfold decodeCol6
  split
  case h_13 => exact .rejected
  all_goals obtain rfl := eq_of_nibbles ‹_› hlo
  case h_11 => exact mapEntry_f3a (fun _ => rfl) fun _ => rfl
  all_goals exact mapEntry_f3i (fun _ _ => rfl) fun _ _ => rfl

theorem mapEntry_decodeCol7 (hlo : (loNib b0).toNat = 7) : MapEntry b0 (decodeCol7 b0) := by
  unfold decodeCol7
  split
  case h_14 => exact .rejected
  all_goals obtain rfl := eq_of_nibbles ‹_› hlo
  case h_11 | h_12 => exact mapEntry_f3x (fun _ _ _ => rfl) fun _ _ _ => rfl
  all_goals exact mapEntry_f3i (fun _ _ => rfl) fun _ _ => rfl

theorem mapEntry_decodeColF (hlo : (loNib b0).toNat = 0xF) : MapEntry b0 (decodeColF b0) := by
  unfold decodeColF
  split
  case h_13 => exact .rejected
  all_goals
    obtain rfl := eq_of_nibbles ‹_› hlo
    exact .noOperand rfl rfl

end

/-- A first byte whose column holds an operand in the high nibble, put together from the two (30_encoding.md R104). -/
theorem eq_nibbles_of_loNib {b0 : Byte} {n : Nat} (hlo : (loNib b0).toNat = n) :
    b0 = nibbles (hiNib b0) (BitVec.ofNat 4 n) := by
  rw [← hlo, BitVec.ofNat_toNat, BitVec.setWidth_eq, nibbles_hiNib_loNib]

theorem mapEntry_reader (b0 : Byte) : MapEntry b0 (reader b0) := by
  unfold reader
  dsimp only
  split
  case h_1 h => exact mapEntry_decodeCol0 h
  case h_2 h => exact mapEntry_decodeCol1 h
  case h_3 h => exact mapEntry_decodeCol2 h
  case h_4 h => exact mapEntry_decodeCol3 h
  case h_5 h => exact mapEntry_decodeCol4 h
  case h_6 h => exact mapEntry_decodeCol5 h
  case h_7 h => exact mapEntry_decodeCol6 h
  case h_8 h => exact mapEntry_decodeCol7 h
  case h_16 h => exact mapEntry_decodeColF h
  case h_17 => exact .rejected
  all_goals
    obtain ⟨n, rfl⟩ : ∃ n, b0 = nibbles n _ := ⟨_, eq_nibbles_of_loNib ‹_›⟩
    rw [hiNib_nibbles]
  case h_9 => exact mapEntry_f2R (fun _ => rfl) fun _ => rfl
  case h_10 | h_11 | h_13 => exact .oneByte (fun _ => rfl) fun _ => rfl
  case h_12 => exact .oneByte (fun _ => rfl) fun _ => by rw [encode, toNibble_ofNibble]; rfl
  case h_14 => exact mapEntry_f3a (fun _ => rfl) fun _ => by rw [encode, toNibble_ofNibble]; rfl
  case h_15 => exact .noOperand rfl rfl

theorem MapEntry.encode_append {b0 : Byte} {r : Reader} (hr : MapEntry b0 r) {bs rest : List Byte} {i : Instr}
    (h : r bs = .ok (i, rest)) : HasEncoding i = true ∧ encode i ++ rest = b0 :: bs := by
  cases hr with
  | rejected => cases h
  | noOperand henc hbytes =>
    obtain ⟨rfl, rfl⟩ := f1_ok.mp h
    exact ⟨henc, by rw [hbytes]; rfl⟩
  | oneByte henc hbytes =>
    obtain ⟨b1, rfl, rfl⟩ := f2_ok.mp h
    exact ⟨henc b1, by rw [hbytes]; rfl⟩
  | twoBytes henc hbytes =>
    obtain ⟨b1, b2, rfl, rfl⟩ := f3_ok.mp h
    exact ⟨henc b1 b2, by rw [hbytes]; rfl⟩

/-- Settles O2: every entry of the opcode map reads encodable instructions, and the bytes of their encodings. -/
theorem encodeDecode : Obligations.EncodeDecode := by
  intro bs i rest h
  cases bs with
  | nil => cases h
  | cons b0 bs => exact (mapEntry_reader b0).encode_append h

/-! ## The length by the first byte (30_encoding.md R107) -/

/-- R107's rows, those of three bytes taken together. -/
theorem opLength_eq (b0 : Byte) :
    opLength b0 =
      if b0.toNat % 16 = 0xE ∨ b0.toNat % 16 = 0xF then 1
      else if b0.toNat % 16 = 0xD ∨ (4 ≤ b0.toNat % 16 ∧ b0.toNat % 16 ≤ 7 ∧ b0 ≠ 0xD4) then 3
      else 2 := by
  simp only [opLength, loNib_toNat, ite_or]

/-- Settles O3: the length of what the map reads, with R107's rows as the statement has them. -/
theorem lengthByFirstByte : Obligations.LengthByFirstByte :=
  fun b0 _ _ _ h => (length_encode_of_decode h).trans (opLength_eq b0)

/-! ## Unassigned opcodes (30_encoding.md R109) -/

/-- Two operand bytes are enough for every format, so only an unassigned opcode is refused. -/
theorem MapEntry.rejected_or_ok {b0 : Byte} {r : Reader} (hr : MapEntry b0 r) :
    (∀ bs, r bs = .error (.unassignedOpcode b0)) ∨ ∀ b1 b2, ∃ x, r [b1, b2] = .ok x := by
  cases hr with
  | rejected => exact .inl fun _ => rfl
  | noOperand | oneByte | twoBytes => exact .inr fun _ _ => ⟨_, rfl⟩

/-- Whether three bytes decode is a matter of the first. -/
theorem decode_rejects_iff (b0 b1 b2 : Byte) :
    (∀ r, decode [b0, b1, b2] ≠ .ok r) ↔ reader b0 [0, 0] = .error (.unassignedOpcode b0) := by
  obtain hrej | hok := (mapEntry_reader b0).rejected_or_ok
  · exact iff_of_true (fun r h => nomatch (hrej _).symm.trans h) (hrej _)
  · obtain ⟨x, hx⟩ := hok b1 b2
    obtain ⟨y, hy⟩ := hok 0 0
    exact iff_of_false (fun h => h x hx) fun h => nomatch hy.symm.trans h

theorem reader_rejects_iff (b0 : Byte) : reader b0 [0, 0] = .error (.unassignedOpcode b0) ↔
    b0 ∈ ([0x0F, 0x1F, 0x2F, 0x3F, 0x84, 0x85, 0x86, 0x87, 0x94, 0x95, 0x96, 0x97, 0xC4, 0xC5, 0xC6, 0xD5, 0xE2, 0xF2,
      0xF4, 0xF6, 0xF7] : List Byte) := by
  revert b0; decide

namespace Machine

theorem fetchInstr_of_rejects {s : State} (h : ∀ r, decode s.fetchBytes ≠ .ok r) :
    s.fetchInstr = .error .unassignedOpcode := by
  unfold State.fetchInstr
  split
  · next hdec => exact absurd hdec (h _)
  · rfl

theorem cpuStep_of_fetch_error {s : State} {e : Fault} (hr : s.runState = .run) (hf : s.fetchInstr = .error e) :
    cpuStep s = .fault e := by
  simp only [cpuStep, hr, hf]

/-- Settles O4: the 21 rows of the map that hold nothing, the step that meets one, and the two opcodes of the Watch-Dog. -/
theorem unassignedOpcodes : Obligations.UnassignedOpcodes := by
  refine ⟨fun b0 b1 b2 => (decode_rejects_iff b0 b1 b2).trans (reader_rejects_iff b0), fun s hr hturn hrej => ?_,
    fun s hwdt => ⟨?_, ?_⟩⟩
  · calc step s = cpuStep s.tailInputs := step_of_cpuTurn hturn
      _ = .fault .unassignedOpcode := cpuStep_of_fetch_error hr (fetchInstr_of_rejects (s := s.tailInputs) hrej)
  · simp [exec, execWdh, hwdt]
  · simp [exec, execWdt, hwdt]

/-! ## Odd register pairs (30_encoding.md R111; log 25) -/

theorem nibble_odd_iff {m : Nibble} : m.getLsbD 0 = true ↔ m.toNat % 2 = 1 := by
  simp [BitVec.getLsbD, Nat.testBit_zero]

theorem evenPair_odd {p : Byte} (hp : p.toNat % 2 = 1) : evenPair p = .error .oddRegisterPair :=
  if_pos ((isOdd_iff p).mpr hp)

section

variable {s : State} {n m : Nibble}

theorem aluPair_odd (f : Word → Word × FlagUpd) {p : Byte} (hp : p.toNat % 2 = 1) :
    aluPair f (.ok p) s = .fault .oddRegisterPair := by
  simp only [aluPair, ok_bind, evenPair_odd hp, error_bind, finish_error]

theorem execJp_IRR_odd {o : RegOp} (ho : (s.regAddr o).toNat % 2 = 1) :
    execJp_IRR o s = .fault .oddRegisterPair := by
  simp only [execJp_IRR, evenPair_odd ho, error_bind, finish_error]

theorem execCall_IRR_odd {o : RegOp} (ho : (s.regAddr o).toNat % 2 = 1) :
    execCall_IRR o s = .fault .oddRegisterPair := by
  simp only [execCall_IRR, evenPair_odd ho, error_bind, finish_error]

theorem readWrPair_odd (hm : m.getLsbD 0 = true) : s.readWrPair m = .error .oddRegisterPair := by
  rw [State.readWrPair, if_pos hm]; rfl

theorem loadByte_odd (read : State → Word → Res Byte) (hm : m.getLsbD 0 = true) :
    loadByte read n m s = .fault .oddRegisterPair := by
  simp only [loadByte, readWrPair_odd hm, error_bind, finish_error]

theorem storeByte_odd (write : State → Word → Byte → Res State) (hm : m.getLsbD 0 = true) :
    storeByte write n m s = .fault .oddRegisterPair := by
  simp only [storeByte, readWrPair_odd hm, error_bind, finish_error]

theorem loadByteInc_odd (read : State → Word → Res Byte) (hm : m.getLsbD 0 = true) :
    loadByteInc read n m s = .fault .oddRegisterPair := by
  simp only [loadByteInc, readPointers_odd hm, error_bind, finish_error]

theorem storeByteInc_odd (write : State → Word → Byte → Res State) (hm : m.getLsbD 0 = true) :
    storeByteInc write n m s = .fault .oddRegisterPair := by
  simp only [storeByteInc, readPointers_odd hm, error_bind, finish_error]

end

/-- Settles O55: one clause for each way an instruction names a pair. -/
theorem oddPairFaults : Obligations.OddPairFaults := by
  refine fun s => ⟨fun f p hpair hp => ?_, fun o ho => ⟨execJp_IRR_odd ho, execCall_IRR_odd ho⟩, fun n m hm => ?_⟩
  · rw [exec_incw, exec_decw, hpair]
    exact ⟨aluPair_odd _ hp, aluPair_odd _ hp⟩
  · have hm := nibble_odd_iff.mpr hm
    exact ⟨loadByte_odd _ hm, storeByte_odd _ hm, loadByte_odd _ hm, storeByte_odd _ hm, loadByteInc_odd _ hm,
      storeByteInc_odd _ hm, loadByteInc_odd _ hm, storeByteInc_odd _ hm⟩

/-! ## Condition codes (30_encoding.md R108; log 3) -/

/-- The entries the source shows are those of every part the spec admits. -/
theorem cond_table_of_wf {c : Chip} (h : c.wf = true) :
    c.cond.mi = .s ∧ c.cond.c = .c ∧ c.cond.always = .not .never := by
  have hcond : c.cond.wf = true := (Bool.and_eq_true_iff.mp h).2
  simpa [CondTable.wf, and_assoc] using hcond

/-- In the default table, of the entries of two codes eight apart one is the negation of the other. -/
theorem standard_entry_add_eight (n : Nibble) :
    CondTable.standard.entry (Cond.ofNibble (n + 8)) = .not (CondTable.standard.entry (Cond.ofNibble n)) ∨
      CondTable.standard.entry (Cond.ofNibble n) = .not (CondTable.standard.entry (Cond.ofNibble (n + 8))) := by
  revert n; decide

theorem holds_not (l : FlagBits) (f : Byte) (e : FlagExpr) : (FlagExpr.not e).holds l f = !e.holds l f := rfl

theorem cond_of_standard {s : State} (h : s.chip.cond = .standard) (cc : Cond) :
    s.cond cc = (CondTable.standard.entry cc).holds s.chip.flagBits s.flags := by
  rw [State.cond, h]

theorem cond_add_eight {s : State} (h : s.chip.cond = .standard) (n : Nibble) :
    s.cond (Cond.ofNibble (n + 8)) = !s.cond (Cond.ofNibble n) := by
  rw [cond_of_standard h, cond_of_standard h]
  obtain hneg | hneg := standard_entry_add_eight n
  · rw [hneg, holds_not]
  · rw [hneg, holds_not, Bool.not_not]

/-- Settles O33: each row of the table read off, the upper eight by negation. -/
theorem conditionCodes : Obligations.ConditionCodes := by
  refine fun s => ⟨fun hwf => ?_, fun h => ?_⟩
  · obtain ⟨hmi, hc, halways⟩ := cond_table_of_wf hwf
    exact ⟨congrArg (FlagExpr.holds _ _) hmi, congrArg (FlagExpr.holds _ _) hc, congrArg (FlagExpr.holds _ _) halways⟩
  · exact ⟨cond_of_standard h .f, cond_of_standard h .lt, cond_of_standard h .le, cond_of_standard h .ule,
      cond_of_standard h .ov, cond_of_standard h .mi, cond_of_standard h .eq, cond_of_standard h .c, cond_add_eight h⟩

end Machine

/-! ## Words written out from the spec's encodings (30_encoding.md R91 to R106) -/

/-- Settles O5: each word's bytes are decoded. -/
theorem sampleWords : Obligations.SampleWords := by
  unfold Obligations.SampleWords; decide

end Sys2Proof


/-! PROOFS of the family 40_arithmetic.md: what each arithmetic instruction computes and where it leaves it (R130 to R141), and
the laws that follow for programs of two of them (R142). -/

namespace Sys2Proof.Machine

/-! ## Flags an update gives (10_state.md R33, R34) -/

section

variable {l : FlagBits} {u : FlagUpd}

theorem zeroSign_applyFlags {w : Nat} {r : BitVec w} (hl : l.wf = true) (hz : u.z = some (r == 0)) (hs : u.s = some r.msb)
    (f : Byte) : ZeroSign l f (applyFlags l f u) (r = 0) (r.toInt < 0) where
  zero := by simp [hl, FlagUpd.at, hz]
  sign := by simp [hl, FlagUpd.at, hs, BitVec.msb_eq_toInt]
  user := user_applyFlags l f u

theorem keepsDH_applyFlags (hl : l.wf = true) (hd : u.d = none) (hh : u.h = none) (f : Byte) :
    KeepsDH l f (applyFlags l f u) where
  decimal := by simp [hl, FlagUpd.at, hd]
  half := by simp [hl, FlagUpd.at, hh]

theorem keepsCDH_applyFlags (hl : l.wf = true) (hc : u.c = none) (hd : u.d = none) (hh : u.h = none) (f : Byte) :
    KeepsCDH l f (applyFlags l f u) where
  carry := by simp [hl, FlagUpd.at, hc]
  decimal := by simp [hl, FlagUpd.at, hd]
  half := by simp [hl, FlagUpd.at, hh]

end

/-! ## The cores of addition and subtraction (40_arithmetic.md R130, R131) -/

theorem byte_toInt (b : Byte) : b.toInt = if b.toNat < 128 then (b.toNat : Int) else b.toNat - 256 := by
  rw [BitVec.toInt_eq_toNat_cond]
  split_ifs <;> omega

theorem addCore_result_toNat (d v : Byte) (cin : Bool) :
    (addCore d v cin).1.toNat = (d.toNat + v.toNat + cin.toNat) % 256 := BitVec.toNat_ofNat _ _

theorem addCore_carry (d v : Byte) (cin : Bool) :
    (addCore d v cin).2.c = some (decide (255 < d.toNat + v.toNat + cin.toNat)) := rfl

theorem addCore_half (d v : Byte) (cin : Bool) :
    (addCore d v cin).2.h = some (decide (15 < d.toNat % 16 + v.toNat % 16 + cin.toNat)) := rfl

theorem addCore_overflow (d v : Byte) (cin : Bool) :
    (addCore d v cin).2.v = some (d.msb == v.msb && (addCore d v cin).1.msb != d.msb) := rfl

/-- Operands of one sign with a result of the other are the sums no signed byte holds. -/
theorem addCore_overflow_iff (d v : Byte) (cin : Bool) :
    (d.msb == v.msb && (addCore d v cin).1.msb != d.msb) = true ↔
      (d.toInt + v.toInt + cin.toNat < -128 ∨ 127 < d.toInt + v.toInt + cin.toNat) := by
  have hr := addCore_result_toNat d v cin
  have hc := Bool.toNat_le cin
  simp only [Bool.and_eq_true, beq_iff_eq, bne_iff_ne, ne_eq, BitVec.msb_eq_decide, decide_eq_decide, byte_toInt]
  split_ifs <;> omega

theorem isSum_addCore {l : FlagBits} (hl : l.wf = true) (d v : Byte) (cin : Bool) (f : Byte) :
    IsSum l d v cin f (addCore d v cin).1 (applyFlags l f (addCore d v cin).2) where
  toZeroSign := zeroSign_applyFlags hl rfl rfl f
  value := by
    have hc := Bool.toNat_le cin
    have hr := addCore_result_toNat d v cin
    rw [flag_applyFlags hl, FlagUpd.at, addCore_carry, Option.getD_some]
    by_cases h : 255 < d.toNat + v.toNat + cin.toNat
    · rw [decide_eq_true h, Bool.toNat_true]; omega
    · rw [decide_eq_false h, Bool.toNat_false]; omega
  overflow := by
    rw [flag_applyFlags hl, FlagUpd.at, addCore_overflow, Option.getD_some, addCore_overflow_iff]
  decimal := flag_applyFlags hl .d f _
  half := by rw [flag_applyFlags hl, FlagUpd.at, addCore_half, Option.getD_some, decide_eq_true_iff]

theorem subCore_result_toNat (d v : Byte) (bin : Bool) :
    ((subCore d v bin).1.toNat : Int) = (d.toNat - v.toNat - bin.toNat) % 256 := by
  have h : (subCore d v bin).1.toNat = (((d.toNat : Int) - v.toNat - bin.toNat) % 256).toNat := BitVec.toNat_ofInt _
  omega

theorem subCore_carry (d v : Byte) (bin : Bool) :
    (subCore d v bin).2.c = some (decide ((d.toNat : Int) - v.toNat - bin.toNat < 0)) := rfl

theorem subCore_half (d v : Byte) (bin : Bool) : (subCore d v bin).2.h =
    some (decide ((d.toNat % 16 : Int) - (v.toNat % 16 : Int) - (bin.toNat : Int) < 0)) := rfl

theorem subCore_overflow (d v : Byte) (bin : Bool) :
    (subCore d v bin).2.v = some (d.msb != v.msb && (subCore d v bin).1.msb == v.msb) := rfl

/-- Operands of two signs with a result of the source's are the differences no signed byte holds. -/
theorem subCore_overflow_iff (d v : Byte) (bin : Bool) :
    (d.msb != v.msb && (subCore d v bin).1.msb == v.msb) = true ↔
      (d.toInt - v.toInt - bin.toNat < -128 ∨ 127 < d.toInt - v.toInt - bin.toNat) := by
  have hr := subCore_result_toNat d v bin
  have hb := Bool.toNat_le bin
  simp only [Bool.and_eq_true, beq_iff_eq, bne_iff_ne, ne_eq, BitVec.msb_eq_decide, decide_eq_decide, byte_toInt]
  split_ifs <;> omega

/-- SUB, SBC and CP alike: any update that gives C, Z, S and V as SubCore does. -/
theorem isDifference_subCore {l : FlagBits} {d v : Byte} {bin : Bool} {u : FlagUpd} (hl : l.wf = true)
    (hc : u.c = (subCore d v bin).2.c) (hz : u.z = (subCore d v bin).2.z) (hs : u.s = (subCore d v bin).2.s)
    (hv : u.v = (subCore d v bin).2.v) (f : Byte) :
    IsDifference l d v bin f (subCore d v bin).1 (applyFlags l f u) where
  toZeroSign := zeroSign_applyFlags hl hz hs f
  value := by
    have hb := Bool.toNat_le bin
    have hr := subCore_result_toNat d v bin
    rw [flag_applyFlags hl, FlagUpd.at, hc, subCore_carry, Option.getD_some]
    by_cases h : (d.toNat : Int) - v.toNat - bin.toNat < 0
    · rw [decide_eq_true h, Bool.toNat_true]; omega
    · rw [decide_eq_false h, Bool.toNat_false]; omega
  overflow := by
    rw [flag_applyFlags hl, FlagUpd.at, hv, subCore_overflow, Option.getD_some, subCore_overflow_iff]

theorem subCore_half_iff {l : FlagBits} (hl : l.wf = true) (d v : Byte) (bin : Bool) (f : Byte) :
    flag l .h (applyFlags l f (subCore d v bin).2) = true ↔ d.toNat % 16 < v.toNat % 16 + bin.toNat := by
  rw [flag_applyFlags hl, FlagUpd.at, subCore_half, Option.getD_some, decide_eq_true_iff]
  omega

/-! ## Two-operand instructions (40_arithmetic.md R132 to R134, R140, R141) -/

section

variable {dst : Place} {src : Source} {s : State} {a d v : Byte}

theorem alu2_of_readable (f : Byte → Byte → Bool → Byte × FlagUpd) (h : Readable s dst src a d v) (ha : a ≠ 0xFC) :
    alu2 f dst src s = .next { s.store (s.loc a) (f d v (s.flag .c)).1 with
      flags := applyFlags s.chip.flagBits s.flags (f d v (s.flag .c)).2 }.retire :=
  alu2_next.mpr ⟨a, v, d, h.addr, h.source, h.old, ha, rfl⟩

theorem test2_of_readable (f : Byte → Byte → Byte × FlagUpd) (h : Readable s dst src a d v) :
    test2 f dst src s = .next { s with flags := applyFlags s.chip.flagBits s.flags (f d v).2 }.retire :=
  test2_next.mpr ⟨a, v, d, h.addr, h.source, h.old, rfl⟩

end

theorem flagBits_wf {c : Chip} (h : c.wf = true) : c.flagBits.wf = true := by
  simp only [Chip.wf, Bool.and_eq_true] at h
  obtain ⟨⟨-, hl⟩, -⟩ := h
  exact hl

/-- Settles O29: both instructions write the result and the flags of AddCore, ADD with no carry in. -/
theorem addAdcResult : Obligations.AddAdcResult := by
  intro f s a d v hwf h ha
  have hl := flagBits_wf hwf
  exact ⟨⟨_, _, (exec_add f s).trans (alu2_of_readable addOp h ha), isSum_addCore hl d v false s.flags⟩,
    ⟨_, _, (exec_adc f s).trans (alu2_of_readable addCore h ha), isSum_addCore hl d v (s.flag .c) s.flags⟩⟩

/-- Settles O30: both instructions write the result and the flags of SubCore, SUB with no borrow in. -/
theorem subSbcResult : Obligations.SubSbcResult := by
  intro f s a d v hwf h ha
  have hl := flagBits_wf hwf
  have hdecimal : ∀ bin, flag s.chip.flagBits .d (applyFlags s.chip.flagBits s.flags (subCore d v bin).2) = true :=
    fun bin => flag_applyFlags hl .d s.flags _
  exact ⟨⟨_, _, (exec_sub f s).trans (alu2_of_readable subOp h ha), isDifference_subCore hl rfl rfl rfl rfl s.flags,
      hdecimal false, subCore_half_iff hl d v false s.flags⟩,
    ⟨_, _, (exec_sbc f s).trans (alu2_of_readable subCore h ha), isDifference_subCore hl rfl rfl rfl rfl s.flags,
      hdecimal (s.flag .c), subCore_half_iff hl d v (s.flag .c) s.flags⟩⟩

theorem exec_cp (f : TwoForm) (s : State) : exec f.cp s = test2 cpCore f.dst f.src s := by cases f <;> rfl

/-- Settles O31: CP's update is SubCore's without D and H, and no register is written. -/
theorem cpResult : Obligations.CpResult := by
  intro f s a d v hwf h
  have hl := flagBits_wf hwf
  exact ⟨_, _, (exec_cp f s).trans (test2_of_readable cpCore h),
    isDifference_subCore (u := (cpCore d v).2) hl rfl rfl rfl rfl s.flags,
    keepsDH_applyFlags hl rfl rfl s.flags⟩

/-! ## What the flags of a comparison say (40_arithmetic.md R134; 30_encoding.md R108, log 3) -/

section

variable {l : FlagBits} {d v old r new : Byte}

theorem IsDifference.zero_iff (h : IsDifference l d v false old r new) : flag l .z new = true ↔ d = v := by
  have hval := h.value
  have hc := Bool.toNat_le (flag l .c new)
  rw [Bool.toNat_false] at hval
  rw [h.zero, ← BitVec.toNat_inj, ← BitVec.toNat_inj, show (0 : Byte).toNat = 0 from rfl]
  omega

theorem IsDifference.carry_iff (h : IsDifference l d v false old r new) :
    flag l .c new = true ↔ d.toNat < v.toNat := by
  have hval := h.value
  rw [Bool.toNat_false] at hval
  cases hc : flag l .c new <;> rw [hc] at hval
  · rw [Bool.toNat_false] at hval; simp only [Bool.false_eq_true, false_iff]; omega
  · rw [Bool.toNat_true] at hval; simp only [true_iff]; omega

/-- S is the sign of the difference but where V says that the difference has left the signed bytes. -/
theorem IsDifference.signed_lt_iff (h : IsDifference l d v false old r new) :
    (flag l .s new ^^ flag l .v new) = true ↔ d.toInt < v.toInt := by
  have hval := h.value
  have hc := Bool.toNat_le (flag l .c new)
  rw [Bool.toNat_false] at hval
  rw [bne_iff_ne, ne_eq, Bool.eq_iff_iff, h.sign, h.overflow, Bool.toNat_false]
  simp only [byte_toInt]
  split_ifs <;> omega

end

/-- Settles O32: each row of the default table read off, from equality, borrow and signed order. -/
theorem compareThenCondition : Obligations.CompareThenCondition := by
  intro f s t a d v hwf hcond h hnext
  obtain ⟨r, fl, hexec, hdiff, -⟩ := cpResult f s a d v hwf h
  obtain rfl := Host.Outcome.next.inj (hnext.symm.trans hexec)
  have hbelow : d.toNat < v.toNat ∨ d = v ↔ d.toNat ≤ v.toNat := by rw [← BitVec.toNat_inj, Nat.le_iff_lt_or_eq]
  have hless : d = v ∨ d.toInt < v.toInt ↔ d.toInt ≤ v.toInt := by rw [← BitVec.toInt_inj, Int.le_iff_eq_or_lt]
  have hrow : ∀ cc, ({ s with flags := fl }.retire : State).cond cc =
      (CondTable.standard.entry cc).holds s.chip.flagBits fl := cond_of_standard hcond
  simp only [hrow, CondTable.standard, CondTable.entry, FlagExpr.holds, Bool.not_eq_true', ← Bool.not_eq_true,
    Bool.or_eq_true, hdiff.zero_iff, hdiff.carry_iff, hdiff.signed_lt_iff, hbelow, hless, Nat.not_lt, Nat.not_le, Int.not_lt,
    Int.not_le, ne_eq, and_self]

/-! ## Where an instruction of the ALU leaves its result (10_state.md R21, R24) -/

/-- A general-purpose address: whatever bank is selected, no port and no control register. -/
def IsGeneral (a : Byte) : Prop := 4 ≤ a.toNat ∧ a.toNat < 0xF0

theorem IsGeneral.ne_of_ge {a c : Byte} (h : IsGeneral a) (hc : 0xF0 ≤ c.toNat) : a ≠ c := by
  rintro rfl
  exact absurd h.2 (by omega)

theorem IsGeneral.loc_ne_device {a : Byte} (h : IsGeneral a) (s : State) (c : Byte) : s.loc a ≠ .device c := by
  obtain ⟨i, hi⟩ | ⟨i, hi⟩ := loc_of_general (s := s) h.1 h.2 <;> rw [hi] <;> nofun

/-- Every read of a general-purpose register gives its one value: the oracle answers none of them. -/
theorem IsGeneral.readReg_slot {a : Byte} (h : IsGeneral a) (s : State) (k k' : ReadSlot) :
    s.readReg k a = s.readReg k' a := by
  unfold State.readReg
  obtain ⟨i, hi⟩ | ⟨i, hi⟩ := loc_of_general (s := s) h.1 h.2 <;> rw [hi] <;> rfl

/-- The state an instruction of the ALU answers: `r` written to the register at `a`, FCH holding `fl`. -/
def State.aluResult (s : State) (a r fl : Byte) : State := { s.store (s.loc a) r with flags := fl }.retire

@[simp] theorem State.aluResult_chip (s : State) (a r fl : Byte) : (s.aluResult a r fl).chip = s.chip :=
  s.store_chip (s.loc a) r

@[simp] theorem State.aluResult_flag (s : State) (a r fl : Byte) (x : Flag) :
    (s.aluResult a r fl).flag x = Sys2Proof.flag s.chip.flagBits x fl := by
  rw [State.flag, State.aluResult_chip]; rfl

section

variable {a b : Byte}

theorem IsGeneral.aluResult_rp (ha : IsGeneral a) (s : State) (r fl : Byte) : (s.aluResult a r fl).rp = s.rp :=
  store_rp_of_addr_ne s r (ha.ne_of_ge (by decide))

theorem valueAt_aluResult (s : State) (k : ReadSlot) (r fl : Byte) {l : RegLoc} (h : l ≠ .flags)
    (hdev : ∀ c, l ≠ .device c) : (s.aluResult a r fl).valueAt k l = (s.store (s.loc a) r).valueAt k l := by
  cases l with
  | flags => exact absurd rfl h
  | device c => exact absurd rfl (hdev c)
  | _ => rfl

theorem readReg_aluResult (ha : IsGeneral a) (hb : IsGeneral b) (s : State) (k : ReadSlot) (r fl : Byte) :
    (s.aluResult a r fl).readReg k b =
      if s.absent b then .error .unimplementedRegister else .ok ((s.store (s.loc a) r).valueAt k (s.loc b)) := by
  have hrp := ha.aluResult_rp s r fl
  have hchip := s.aluResult_chip a r fl
  rw [State.readReg, absent_congr hchip hrp, loc_congr hchip hrp,
    valueAt_aluResult s k r fl (mt loc_eq_flags.mp (hb.ne_of_ge (by decide))) (hb.loc_ne_device s)]

/-- The destination reads as the result. -/
theorem readReg_aluResult_self (ha : IsGeneral a) {s : State} (hs : s.absent a = false) (k : ReadSlot) (r fl : Byte) :
    (s.aluResult a r fl).readReg k a = .ok r := by
  rw [readReg_aluResult ha ha, hs, s.valueAt_store_same k r (ha.loc_ne_device s)]
  rfl

/-- Another general-purpose register reads as before. -/
theorem readReg_aluResult_ne (ha : IsGeneral a) (hb : IsGeneral b) (hne : b ≠ a) (s : State) (k : ReadSlot) (r fl : Byte) :
    (s.aluResult a r fl).readReg k b = s.readReg k b := by
  rw [readReg_aluResult ha hb, s.valueAt_store_ne k r (mt (loc_injective s) hne)]
  rfl

theorem readable_reg_reg (hb : IsGeneral b) {s : State} {d v : Byte} (hd : s.readReg .dst a = .ok d)
    (hv : s.readReg .dst b = .ok v) : Readable s (.reg (.reg a)) (.place (.reg (.reg b))) a d v where
  addr := rfl
  source := srcVal_place_ok.mpr ⟨b, rfl, (hb.readReg_slot s .src .dst).trans hv⟩
  old := hd

end

/-- Settles O34: the ADD leaves the high operands as they are, and its C is the carry into the ADC. -/
theorem wideAddition : Obligations.WideAddition := by
  intro s dh dl vh vl xh xl yh yl hwf hgen hd hv hxh hxl hyh hyl
  have hdh : IsGeneral dh := hgen dh (by simp)
  have hdl : IsGeneral dl := hgen dl (by simp)
  have hvh : IsGeneral vh := hgen vh (by simp)
  have hvl : IsGeneral vl := hgen vl (by simp)
  obtain ⟨⟨rl, fl, hadd, hlow⟩, -⟩ := addAdcResult (.regReg (.reg dl) (.reg vl)) s dl xl yl hwf
    (readable_reg_reg hvl hxl hyl) (hdl.ne_of_ge (by decide))
  let t := s.aluResult dl rl fl
  have hxh' : t.readReg .dst dh = .ok xh := (readReg_aluResult_ne hdl hdh hd s .dst rl fl).trans hxh
  have hyh' : t.readReg .dst vh = .ok yh := (readReg_aluResult_ne hdl hvh hv s .dst rl fl).trans hyh
  have hrl : t.readReg .dst dl = .ok rl := readReg_aluResult_self hdl (readReg_ok.mp hxl).1 .dst rl fl
  have hwf' : t.chip.wf = true := (congrArg Chip.wf (s.aluResult_chip dl rl fl)).trans hwf
  obtain ⟨-, rh, fh, hadc, hhigh⟩ := addAdcResult (.regReg (.reg dh) (.reg vh)) t dh xh yh hwf'
    (readable_reg_reg hvh hxh' hyh') (hdh.ne_of_ge (by decide))
  refine ⟨t, t.aluResult dh rh fh, rh, rl, hadd, hadc, readReg_aluResult_self hdh (readReg_ok.mp hxh').1 .dst rh fh,
    (readReg_aluResult_ne hdh hdl hd.symm t .dst rh fh).trans hrl, ?_⟩
  have hsumLow := hlow.value
  have hsumHigh := hhigh.value
  rw [show t.flag .c = flag s.chip.flagBits .c fl from s.aluResult_flag dl rl fl .c] at hsumHigh
  rw [Bool.toNat_false] at hsumLow
  rw [State.aluResult_flag]
  omega

/-! ## One-operand instructions (40_arithmetic.md R136, R138) -/

theorem alu1_of_read {dst : Place} {s : State} {a d : Byte} (f : Byte → Bool → Byte × FlagUpd)
    (ha : s.dstAddr dst = .ok a) (hd : s.readReg .dst a = .ok d) (hne : a ≠ 0xFC) :
    alu1 f dst s = .next { s.store (s.loc a) (f d (s.flag .c)).1 with
      flags := applyFlags s.chip.flagBits s.flags (f d (s.flag .c)).2 }.retire :=
  alu1_next.mpr ⟨a, d, ha, hd, hne, rfl⟩

section

variable {l : FlagBits}

theorem byteFlags_applyFlags {r : Byte} {u : FlagUpd} (hl : l.wf = true) (hz : u.z = some (r == 0))
    (hs : u.s = some r.msb) (hc : u.c = none) (hd : u.d = none) (hh : u.h = none) (f : Byte) :
    ByteFlags l r f (applyFlags l f u) where
  toZeroSign := zeroSign_applyFlags hl hz hs f
  toKeepsCDH := keepsCDH_applyFlags hl hc hd hh f

theorem wordFlags_applyFlags {r : Word} {u : FlagUpd} (hl : l.wf = true) (hz : u.z = some (r == 0))
    (hs : u.s = some r.msb) (hc : u.c = none) (hd : u.d = none) (hh : u.h = none) (f : Byte) :
    WordFlags l r f (applyFlags l f u) where
  toZeroSign := zeroSign_applyFlags hl hz hs f
  toKeepsCDH := keepsCDH_applyFlags hl hc hd hh f

/-- V of a count by one is set for the one operand `m` whose successor or predecessor overflows. -/
theorem overflow_applyFlags_iff {w : Nat} {u : FlagUpd} {d m : BitVec w} {P : Prop} (hl : l.wf = true)
    (hv : u.v = some (d == m)) (hP : d = m ↔ P) (f : Byte) : flag l .v (applyFlags l f u) = true ↔ P := by
  rw [flag_applyFlags hl, FlagUpd.at, hv, Option.getD_some, beq_iff_eq, hP]

end

theorem eq_7F_iff (d : Byte) : d = 0x7F ↔ 127 < d.toInt + 1 := by
  rw [← BitVec.toInt_inj, show (0x7F : Byte).toInt = 127 from rfl]
  have := d.toInt_lt
  omega

theorem eq_80_iff (d : Byte) : d = 0x80 ↔ d.toInt - 1 < -128 := by
  rw [← BitVec.toInt_inj, show (0x80 : Byte).toInt = -128 from rfl]
  have := d.le_toInt
  omega

theorem eq_7FFF_iff (w : Word) : w = 0x7FFF ↔ 32767 < w.toInt + 1 := by
  rw [← BitVec.toInt_inj, show (0x7FFF : Word).toInt = 32767 from rfl]
  have := w.toInt_lt
  omega

theorem eq_8000_iff (w : Word) : w = 0x8000 ↔ w.toInt - 1 < -32768 := by
  rw [← BitVec.toInt_inj, show (0x8000 : Word).toInt = -32768 from rfl]
  have := w.le_toInt
  omega

/-- Settles O37: the shared shape of the one-operand instructions; V for the one byte whose count overflows. -/
theorem incDecResult : Obligations.IncDecResult := by
  intro s a d hwf hd hne
  have hl := flagBits_wf hwf
  have hinc : ∀ dst : Place, s.dstAddr dst = .ok a → ∃ fl,
      alu1 (plain incCore) dst s = .next { s.store (s.loc a) (d + 1) with flags := fl }.retire ∧
        ByteFlags s.chip.flagBits (d + 1) s.flags fl ∧ (flag s.chip.flagBits .v fl = true ↔ 127 < d.toInt + 1) :=
    fun dst ha => ⟨_, alu1_of_read (plain incCore) ha hd hne, byteFlags_applyFlags hl rfl rfl rfl rfl rfl s.flags,
      overflow_applyFlags_iff hl rfl (eq_7F_iff d) s.flags⟩
  refine ⟨fun f ha => ⟨?_, ?_⟩, fun n hn => hinc (.r n) (congrArg Except.ok hn)⟩
  · rw [exec_inc]
    exact hinc f.place ha
  · rw [exec_dec]
    exact ⟨_, alu1_of_read (plain decCore) ha hd hne, byteFlags_applyFlags hl rfl rfl rfl rfl rfl s.flags,
      overflow_applyFlags_iff hl rfl (eq_80_iff d) s.flags⟩

/-! ## Register pairs (40_arithmetic.md R137, R139; 10_state.md R27) -/

theorem word16_eq_ofNat (h l : Byte) : word16 h l = BitVec.ofNat 16 (256 * h.toNat + l.toNat) := by
  apply BitVec.eq_of_toNat_eq
  rw [word16_toNat, BitVec.toNat_ofNat]
  omega

/-- The two halves of a pair at an even address other than FCH are written one after the other, and neither is RP or FCH. -/
theorem aluPair_of_read (f : Word → Word × FlagUpd) {s : State} {p h lo : Byte} (heven : p.toNat % 2 = 0) (hne : p ≠ 0xFC)
    (hhi : s.readReg .pairHi p = .ok h) (hlo : s.readReg .pairLo (p + 1) = .ok lo) :
    aluPair f (.ok p) s = .next { (s.store (s.loc p) (hiByte (f (word16 h lo)).1)).store (s.loc (p + 1))
      (loByte (f (word16 h lo)).1) with
        flags := applyFlags s.chip.flagBits s.flags (f (word16 h lo)).2 }.retire := by
  have hodd : isOdd p = false := by rw [← Bool.not_eq_true, isOdd_iff]; omega
  have hrp : p ≠ 0xFD := by rintro rfl; exact absurd heven (by decide)
  have hflags : p + 1 ≠ 0xFC := by
    intro hp
    rw [show p = 0xFB by rw [← BitVec.add_sub_cancel p 1, hp]; rfl] at heven
    exact absurd heven (by decide)
  have hkeep : ∀ x y : Byte, applyFlags ((s.store (s.loc p) x).store (s.loc (p + 1)) y).chip.flagBits
      ((s.store (s.loc p) x).store (s.loc (p + 1)) y).flags = applyFlags s.chip.flagBits s.flags := fun x y => by
    rw [State.store_chip, State.store_chip, State.store_flags_of_ne _ _ (mt loc_eq_flags.mp hflags),
      State.store_flags_of_ne _ _ (mt loc_eq_flags.mp hne)]
  refine aluPair_next.mpr ⟨p, word16 h lo, rfl, hodd, hne, readPair_ok.mpr ⟨h, lo, hhi, hlo, rfl⟩, _, _,
    writeReg_ok.mpr ⟨(readReg_ok.mp hhi).1, rfl⟩, writeReg_ok.mpr ⟨?_, rfl⟩, ?_⟩
  · rw [absent_congr (s.store_chip _ _) (store_rp_of_addr_ne s _ hrp)]
    exact (readReg_ok.mp hlo).1
  · rw [loc_store_succ, hkeep]

/-- Settles O38: the pair's word is counted by one; V for the one word whose count overflows. -/
theorem incwDecwResult : Obligations.IncwDecwResult := by
  intro f s p h lo hwf hpair heven hne hhi hlo
  have hl := flagBits_wf hwf
  rw [exec_incw, exec_decw, hpair, ← word16_eq_ofNat]
  exact ⟨⟨_, aluPair_of_read incwCore heven hne hhi hlo, wordFlags_applyFlags hl rfl rfl rfl rfl rfl s.flags,
      overflow_applyFlags_iff hl rfl (eq_7FFF_iff _) s.flags⟩,
    ⟨_, aluPair_of_read decwCore heven hne hhi hlo, wordFlags_applyFlags hl rfl rfl rfl rfl rfl s.flags,
      overflow_applyFlags_iff hl rfl (eq_8000_iff _) s.flags⟩⟩

/-! ## DA (40_arithmetic.md R135; log 26) -/

theorem DaRow.covers_iff {row : DaRow} {v : Byte} {c h d : Bool} :
    row.covers v c h d = true ↔ row.sub = d ∧ row.c = c ∧ row.h = h ∧ row.hiFirst ≤ v.toNat / 16 ∧
      v.toNat / 16 ≤ row.hiLast ∧ row.loFirst ≤ v.toNat % 16 ∧ v.toNat % 16 ≤ row.loLast := by
  simp only [DaRow.covers, Bool.and_eq_true, beq_iff_eq, decide_eq_true_iff, hiNib_toNat, loNib_toNat, and_assoc]

/-- Two rows of the table for the same flags whose ranges of both digits meet are one row. -/
theorem daTable_disjoint : ∀ p ∈ daTable, ∀ q ∈ daTable, p.sub = q.sub → p.c = q.c → p.h = q.h →
    p.hiFirst ≤ q.hiLast → q.hiFirst ≤ p.hiLast → p.loFirst ≤ q.loLast → q.loFirst ≤ p.loLast → p = q := by
  decide

section

variable {v : Byte} {c h d : Bool}

theorem daRow_eq_some {row : DaRow} (hrow : row ∈ daTable) (hcov : row.covers v c h d = true) :
    daRow v c h d = some row := by
  obtain ⟨found, hfound⟩ : ∃ q, daRow v c h d = some q :=
    Option.isSome_iff_exists.mp (List.find?_isSome.mpr ⟨row, hrow, hcov⟩)
  have hmem : found ∈ daTable := List.mem_of_find?_eq_some hfound
  obtain ⟨hsub, hc, hh, hhi, hhi', hlo, hlo'⟩ := DaRow.covers_iff.mp hcov
  obtain ⟨ksub, kc, kh, khi, khi', klo, klo'⟩ :=
    DaRow.covers_iff.mp (List.find?_some (p := fun row : DaRow => row.covers v c h d) hfound)
  rw [hfound, daTable_disjoint found hmem row hrow (ksub.trans hsub.symm) (kc.trans hc.symm) (kh.trans hh.symm)
    (khi.trans hhi') (hhi.trans khi') (klo.trans hlo') (hlo.trans klo')]

theorem daRow_eq_none (hmiss : ∀ row ∈ daTable, row.covers v c h d = false) : daRow v c h d = none :=
  List.find?_eq_none.mpr fun row hrow => Bool.eq_false_iff.mp (hmiss row hrow)

end

theorem decimalAdjust_undefined {dst : Place} {s : State} {a d : Byte} (ha : s.dstAddr dst = .ok a)
    (hd : s.readReg .dst a = .ok d) (hmiss : daRow d (s.flag .c) (s.flag .h) (s.flag .d) = none) :
    decimalAdjust dst s = .fault .daUndefined := by
  simp only [decimalAdjust, ha, hd, ok_bind, hmiss, finish_error]

/-- Settles O39: the row that covers the operand is the one DA takes; with none, DA has no answer. -/
theorem daResult : Obligations.DaResult := by
  intro f s a d ha hd
  rw [exec_da]
  refine ⟨fun row hrow hcov hwf hne => ?_, fun hmiss => decimalAdjust_undefined ha hd (daRow_eq_none hmiss)⟩
  have hl := flagBits_wf hwf
  exact ⟨_, decimalAdjust_next.mpr ⟨a, d, row, ha, hd, daRow_eq_some hrow hcov, hne, rfl⟩,
    zeroSign_applyFlags hl rfl rfl s.flags, keepsDH_applyFlags hl rfl rfl s.flags, flag_applyFlags hl .c s.flags _⟩

/-! ## Decimal addition and subtraction (40_arithmetic.md R132, R135, R140) -/

theorem isBcd_iff {b : Byte} : isBcd b = true ↔ b.toNat / 16 ≤ 9 ∧ b.toNat % 16 ≤ 9 := by
  simp only [isBcd, Bool.and_eq_true, decide_eq_true_iff, hiNib_toNat, loNib_toNat]

theorem bcdValue_eq (b : Byte) : bcdValue b = 10 * (b.toNat / 16) + b.toNat % 16 := by
  rw [bcdValue, hiNib_toNat, loNib_toNat]

/-- The operands DA is defined on after an addition. -/
theorem exists_daRow_add_iff {r : Byte} {c h : Bool} : (∃ row ∈ daTable, row.covers r c h false = true) ↔
    (h = true → r.toNat % 16 ≤ 3) ∧ (c = true → r.toNat / 16 ≤ 2 + h.toNat) := by
  have hr := r.isLt
  cases c <;> cases h <;> simp [daTable, DaRow.covers_iff] <;> omega

/-- The operands DA is defined on after a subtraction. -/
theorem exists_daRow_sub_iff {r : Byte} {c h : Bool} : (∃ row ∈ daTable, row.covers r c h true = true) ↔
    (if h then 6 ≤ r.toNat % 16 else r.toNat % 16 ≤ 9) ∧
      (if c then 7 ≤ r.toNat / 16 + h.toNat else r.toNat / 16 + h.toNat ≤ 9) := by
  have hr := r.isLt
  cases c <;> cases h <;> simp [daTable, DaRow.covers_iff] <;> omega

/-- Row by row of the upper half: both digits become decimal; a carry out of a digit was worth sixteen, and is worth ten. -/
theorem daTable_add {row : DaRow} {r : Byte} {c h : Bool} (hrow : row ∈ daTable) (hcov : row.covers r c h false = true) :
    isBcd (r + row.added) = true ∧
      bcdValue (r + row.added) + 100 * row.cAfter.toNat = bcdValue r + 160 * c.toNat + 6 * h.toNat := by
  obtain ⟨hsub, rfl, rfl, hin⟩ := DaRow.covers_iff.mp hcov
  simp only [isBcd_iff, bcdValue_eq, BitVec.toNat_add]
  fin_cases hrow <;> simp only [reduceCtorEq, BitVec.reduceToNat, Bool.toNat_true, Bool.toNat_false] at hsub hin ⊢ <;> omega

/-- Row by row of the lower half: both digits become decimal; a borrow was worth sixteen, and is worth ten. -/
theorem daTable_sub {row : DaRow} {r : Byte} {c h : Bool} (hrow : row ∈ daTable) (hcov : row.covers r c h true = true) :
    isBcd (r + row.added) = true ∧
      bcdValue (r + row.added) + 160 * c.toNat + 6 * h.toNat = bcdValue r + 100 * row.cAfter.toNat := by
  obtain ⟨hsub, rfl, rfl, hin⟩ := DaRow.covers_iff.mp hcov
  simp only [isBcd_iff, bcdValue_eq, BitVec.toNat_add]
  fin_cases hrow <;> simp only [reduceCtorEq, BitVec.reduceToNat, Bool.toNat_true, Bool.toNat_false] at hsub hin ⊢ <;> omega

section

variable {l : FlagBits} {d v old r fl : Byte} {cin : Bool}

/-- The binary sum of two BCD bytes: an operand DA is defined on, whose digits with C and H at sixteen make the decimal sum. -/
theorem IsSum.bcd (h : IsSum l d v cin old r fl) (hd : isBcd d = true) (hv : isBcd v = true) :
    (∃ row ∈ daTable, row.covers r (flag l .c fl) (flag l .h fl) false = true) ∧
      bcdValue r + 160 * (flag l .c fl).toNat + 6 * (flag l .h fl).toNat = bcdValue d + bcdValue v + cin.toNat := by
  obtain ⟨hdh, hdl⟩ := isBcd_iff.mp hd
  obtain ⟨hvh, hvl⟩ := isBcd_iff.mp hv
  have hcin := Bool.toNat_le cin
  have hval := h.value
  have hhalf := h.half
  rw [exists_daRow_add_iff, bcdValue_eq, bcdValue_eq, bcdValue_eq]
  cases hc : flag l .c fl <;> cases hh : flag l .h fl <;> simp [hc, hh] at hval hhalf ⊢ <;> omega

/-- The binary difference of two BCD bytes: an operand DA is defined on, whose digits less C and H at sixteen make the decimal
difference. -/
theorem IsDifference.bcd (h : IsDifference l d v cin old r fl)
    (hhalf : flag l .h fl = true ↔ d.toNat % 16 < v.toNat % 16 + cin.toNat) (hd : isBcd d = true) (hv : isBcd v = true) :
    (∃ row ∈ daTable, row.covers r (flag l .c fl) (flag l .h fl) true = true) ∧
      bcdValue r + bcdValue v + cin.toNat = bcdValue d + 160 * (flag l .c fl).toNat + 6 * (flag l .h fl).toNat := by
  obtain ⟨hdh, hdl⟩ := isBcd_iff.mp hd
  obtain ⟨hvh, hvl⟩ := isBcd_iff.mp hv
  have hcin := Bool.toNat_le cin
  have hval := h.value
  rw [exists_daRow_sub_iff, bcdValue_eq, bcdValue_eq, bcdValue_eq]
  cases hc : flag l .c fl <;> cases hh : flag l .h fl <;> simp [hc, hh] at hval hhalf ⊢ <;> omega

end

/-- DA on a general-purpose register that the instruction before it wrote: the register and C hold what the table gives. -/
theorem da_aluResult {s : State} {a r fl : Byte} {row : DaRow} (hwf : s.chip.wf = true) (ha : IsGeneral a)
    (hs : s.absent a = false) (hrow : row ∈ daTable) (hcov : row.covers r (flag s.chip.flagBits .c fl)
      (flag s.chip.flagBits .h fl) (flag s.chip.flagBits .d fl) = true) :
    ∃ u, exec (.da_R (.reg a)) (s.aluResult a r fl) = .next u ∧ u.readReg .dst a = .ok (r + row.added) ∧
      u.flag .c = row.cAfter := by
  have hr := readReg_aluResult_self ha hs .dst r fl
  have hwf' : (s.aluResult a r fl).chip.wf = true := (congrArg Chip.wf (s.aluResult_chip a r fl)).trans hwf
  obtain ⟨fl', hexec, -, -, hc⟩ := (daResult (.reg (.reg a)) (s.aluResult a r fl) a r rfl hr).1 row hrow
    (by simpa only [State.aluResult_flag] using hcov) hwf' (ha.ne_of_ge (by decide))
  exact ⟨(s.aluResult a r fl).aluResult a (r + row.added) fl', hexec,
    readReg_aluResult_self ha (readReg_ok.mp hr).1 .dst _ fl', (State.aluResult_flag _ a _ fl' .c).trans hc⟩

/-- Settles O40: what ADC and SBC leave is an operand DA is defined on, and its row turns sixteens into tens. -/
theorem decimalArithmetic : Obligations.DecimalArithmetic := by
  intro s t a d v src hwf hlo hhi h hd hv
  have ha : IsGeneral a := ⟨hlo, hhi⟩
  have hne : a ≠ 0xFC := ha.ne_of_ge (by decide)
  have hs := (readReg_ok.mp h.old).1
  refine ⟨fun hnext => ?_, fun hnext => ?_⟩
  · obtain ⟨-, r, fl, hexec, hsum⟩ := addAdcResult (.regReg (.reg a) src) s a d v hwf h hne
    obtain rfl := Host.Outcome.next.inj (hnext.symm.trans hexec)
    obtain ⟨⟨row, hrow, hcov⟩, hdigits⟩ := hsum.bcd hd hv
    obtain ⟨hbcd, hval⟩ := daTable_add hrow hcov
    obtain ⟨u, hda, hread, hc⟩ := da_aluResult hwf ha hs hrow (by rw [hsum.decimal, hcov])
    exact ⟨u, r + row.added, hda, hread, hbcd, by rw [hc]; omega⟩
  · obtain ⟨-, r, fl, hexec, hdiff, hdec, hhalf⟩ := subSbcResult (.regReg (.reg a) src) s a d v hwf h hne
    obtain rfl := Host.Outcome.next.inj (hnext.symm.trans hexec)
    obtain ⟨⟨row, hrow, hcov⟩, hdigits⟩ := hdiff.bcd hhalf hd hv
    obtain ⟨hbcd, hval⟩ := daTable_sub hrow hcov
    obtain ⟨u, hda, hread, hc⟩ := da_aluResult hwf ha hs hrow (by rw [hdec, hcov])
    exact ⟨u, r + row.added, hda, hread, hbcd, by rw [hc]; omega⟩

end Sys2Proof.Machine

/-! PROOFS of the family 41_logical.md: what each logical instruction computes (R160 to R164), and what the two bit tests tell of
the masked bits (R165, R166). -/

namespace Sys2Proof.Machine

/-! ## The flags of the group (41_logical.md R160) -/

theorem logicFlags_applyFlags {l : FlagBits} (hl : l.wf = true) (r f : Byte) :
    LogicFlags l r f (applyFlags l f (logicFlags r)) where
  toByteFlags := byteFlags_applyFlags hl rfl rfl rfl rfl rfl f
  overflow := flag_applyFlags hl .v f _

/-! ## The instructions that store their result (41_logical.md R161 to R164) -/

theorem alu2_logicOp (op : Byte → Byte → Byte) {dst : Place} {src : Source} {s : State} {a d v : Byte}
    (hwf : s.chip.wf = true) (h : Readable s dst src a d v) (ha : a ≠ 0xFC) :
    ∃ fl, alu2 (logicOp op) dst src s = .next { s.store (s.loc a) (op d v) with flags := fl }.retire ∧
      LogicFlags s.chip.flagBits (op d v) s.flags fl :=
  ⟨_, alu2_of_readable (logicOp op) h ha, logicFlags_applyFlags (flagBits_wf hwf) (op d v) s.flags⟩

theorem not_eq_ofNat_sub (d : Byte) : ~~~d = BitVec.ofNat 8 (255 - d.toNat) := by
  apply BitVec.eq_of_toNat_eq
  rw [BitVec.toNat_not, BitVec.toNat_ofNat]
  omega

/-- Settles O35: each instruction in its shape, with the flags of the result it stores. -/
theorem logicResult : Obligations.LogicResult := by
  refine ⟨fun f s a d v hwf h ha => ⟨?_, ?_, ?_⟩, fun f s a d hwf ha hd hne => ?_⟩
  · rw [exec_and]
    exact alu2_logicOp (· &&& ·) hwf h ha
  · rw [exec_or]
    exact alu2_logicOp (· ||| ·) hwf h ha
  · rw [exec_xor]
    exact alu2_logicOp (· ^^^ ·) hwf h ha
  · rw [exec_com, ← not_eq_ofNat_sub]
    exact ⟨_, alu1_of_read (plain comCore) ha hd hne, logicFlags_applyFlags (flagBits_wf hwf) (~~~d) s.flags⟩

/-! ## The bit tests (41_logical.md R165, R166) -/

theorem exec_tcm (f : TwoForm) (s : State) :
    exec f.tcm s = test2 (testOp fun d v => ~~~d &&& v) f.dst f.src s := by cases f <;> rfl

theorem exec_tm (f : TwoForm) (s : State) : exec f.tm s = test2 (testOp (· &&& ·)) f.dst f.src s := by cases f <;> rfl

theorem test2_testOp (op : Byte → Byte → Byte) {dst : Place} {src : Source} {s : State} {a d v : Byte}
    (hwf : s.chip.wf = true) (h : Readable s dst src a d v) :
    ∃ fl, test2 (testOp op) dst src s = .next { s with flags := fl }.retire ∧
      LogicFlags s.chip.flagBits (op d v) s.flags fl :=
  ⟨_, test2_of_readable (testOp op) h, logicFlags_applyFlags (flagBits_wf hwf) (op d v) s.flags⟩

/-- Masking leaves zero where the operand has 0 in every bit of the mask. -/
theorem and_mask_eq_zero_iff {w : Nat} (x mask : BitVec w) :
    x &&& mask = 0 ↔ ∀ b, b < w → mask.getLsbD b = true → x.getLsbD b = false := by
  rw [BitVec.eq_of_getLsbD_eq_iff]
  refine forall₂_congr fun b _ => ?_
  rw [BitVec.getLsbD_and, BitVec.ofNat_eq_ofNat, BitVec.getLsbD_zero, Bool.and_comm, Bool.and_eq_false_imp]

/-- Masking the complement leaves zero where the operand itself has 1 in every bit of the mask. -/
theorem not_and_mask_eq_zero_iff {w : Nat} (x mask : BitVec w) :
    ~~~x &&& mask = 0 ↔ ∀ b, b < w → mask.getLsbD b = true → x.getLsbD b = true := by
  rw [and_mask_eq_zero_iff]
  refine forall₂_congr fun b hb => ?_
  simp [hb]

theorem and_mask_neg_iff {w : Nat} (x mask : BitVec w) : (x &&& mask).toInt < 0 ↔ mask.msb = true ∧ x.msb = true := by
  rw [← decide_eq_true_iff (p := _ < _), ← BitVec.msb_eq_toInt, BitVec.msb_and, Bool.and_eq_true, and_comm]

/-- Settles O36: Z and S of the result that is not stored, read as the bits of the mask; TCM masks the complement. -/
theorem tcmTmResult : Obligations.TcmTmResult := by
  intro f s a d v hwf h
  refine ⟨?_, ?_⟩
  · obtain ⟨fl, hexec, hfl⟩ := test2_testOp (fun d v => ~~~d &&& v) hwf h
    have hmsb : (~~~d).msb = true ↔ d.msb = false := by simp [BitVec.msb_not]
    exact ⟨fl, (exec_tcm f s).trans hexec, hfl.toKeepsCDH, hfl.overflow, hfl.user,
      hfl.zero.trans (not_and_mask_eq_zero_iff d v),
      hfl.sign.trans ((and_mask_neg_iff (~~~d) v).trans (and_congr_right' hmsb))⟩
  · obtain ⟨fl, hexec, hfl⟩ := test2_testOp (· &&& ·) hwf h
    exact ⟨fl, (exec_tm f s).trans hexec, hfl.toKeepsCDH, hfl.overflow, hfl.user,
      hfl.zero.trans (and_mask_eq_zero_iff d v), hfl.sign.trans (and_mask_neg_iff d v)⟩

end Sys2Proof.Machine

/-! PROOFS of the family 42_rotate_shift.md: the rotates (R180 to R184), the arithmetic shift (R185) and the exchange of nibbles
(R186). -/

namespace Sys2Proof.Machine

/-! ## Rotating by one bit -/

/-- The bit at the top goes below the others. -/
theorem rotateLeft_one_append {w : Nat} (hw : 0 < w) (top : BitVec 1) (x : BitVec w) :
    (top ++ x).rotateLeft 1 = (x ++ top).cast (Nat.add_comm w 1) := by
  have hmod : 1 % (1 + w) = 1 := Nat.mod_eq_of_lt (by omega)
  ext i hi
  by_cases h : i = 0
  · simp [BitVec.getElem_rotateLeft, BitVec.getElem_append, hmod, h]
  · have hlt : i - 1 < w := by omega
    simp [BitVec.getElem_rotateLeft, BitVec.getElem_append, hmod, h, hlt]

/-- The bit at the bottom goes above the others. -/
theorem rotateRight_one_append {w : Nat} (hw : 0 < w) (x : BitVec w) (bottom : BitVec 1) :
    (x ++ bottom).rotateRight 1 = (bottom ++ x).cast (Nat.add_comm 1 w) := by
  have hmod : 1 % (w + 1) = 1 := Nat.mod_eq_of_lt (by omega)
  ext i hi
  by_cases h : i < w
  · simp [BitVec.getElem_rotateRight, BitVec.getElem_append, hmod, h]
  · have htop : i - w = 0 := by omega
    simp [BitVec.getElem_rotateRight, BitVec.getElem_append, hmod, h, htop]

theorem extractLsb'_one_eq_ofBool {w : Nat} (x : BitVec w) (i : Nat) :
    x.extractLsb' i 1 = BitVec.ofBool (x.getLsbD i) := by
  ext j hj
  obtain rfl : j = 0 := by omega
  simp

/-! ## The bytes the rotates make (42_rotate_shift.md R181 to R184) -/

theorem bit7_append (d : Byte) : (BitVec.ofBool (d.getLsbD 7) ++ d.extractLsb' 0 7 : BitVec (1 + 7)) = d := by
  rw [← extractLsb'_one_eq_ofBool]
  exact BitVec.extractLsb'_append_extractLsb'

theorem append_bit0 (d : Byte) : (d.extractLsb' 1 7 ++ BitVec.ofBool (d.getLsbD 0) : BitVec (7 + 1)) = d := by
  rw [← extractLsb'_one_eq_ofBool]
  exact BitVec.extractLsb'_append_extractLsb'

theorem rlCore_result (d : Byte) (c : Bool) : (rlCore d c).1 = d.rotateLeft 1 := by
  have hrot := rotateLeft_one_append (by decide) (BitVec.ofBool (d.getLsbD 7)) (d.extractLsb' 0 7)
  rw [bit7_append, ← extractLsb'_one_eq_ofBool] at hrot
  exact hrot.symm

theorem rrCore_result (d : Byte) (c : Bool) : (rrCore d c).1 = d.rotateRight 1 := by
  have hrot := rotateRight_one_append (by decide) (d.extractLsb' 1 7) (BitVec.ofBool (d.getLsbD 0))
  rw [append_bit0, ← extractLsb'_one_eq_ofBool] at hrot
  exact hrot.symm

/-- Through the carry: the nine bits `C ‖ d[7] ‖ d[6:0]` become `d[7] ‖ d[6:0] ‖ C`. -/
theorem rlcCore_result (d : Byte) (c : Bool) :
    BitVec.ofBool (d.getLsbD 7) ++ (rlcCore d c).1 = (BitVec.ofBool c ++ d).rotateLeft 1 := by
  rw [rotateLeft_one_append (by decide)]
  have hassoc := BitVec.append_assoc (x₁ := BitVec.ofBool (d.getLsbD 7)) (x₂ := d.extractLsb' 0 7) (x₃ := BitVec.ofBool c)
  rw [bit7_append] at hassoc
  exact hassoc.symm

/-- Through the carry: the nine bits `C ‖ d[7:1] ‖ d[0]` become `d[0] ‖ C ‖ d[7:1]`. -/
theorem rrcCore_result (d : Byte) (c : Bool) :
    BitVec.ofBool (d.getLsbD 0) ++ (rrcCore d c).1 = (BitVec.ofBool c ++ d).rotateRight 1 := by
  have hassoc := BitVec.append_assoc (x₁ := BitVec.ofBool c) (x₂ := d.extractLsb' 1 7) (x₃ := BitVec.ofBool (d.getLsbD 0))
  have hrot := rotateRight_one_append (by decide) (BitVec.ofBool c ++ d.extractLsb' 1 7) (BitVec.ofBool (d.getLsbD 0))
  rw [append_bit0] at hassoc
  rw [hassoc] at hrot
  exact hrot.symm

/-! ## The instructions (42_rotate_shift.md R180) -/

theorem rotateFlags_applyFlags {l : FlagBits} (hl : l.wf = true) (d r : Byte) (out : Bool) (f : Byte) :
    RotateFlags l d r out f (applyFlags l f (rotFlags d r out)) where
  toZeroSign := zeroSign_applyFlags hl rfl rfl f
  toKeepsDH := keepsDH_applyFlags hl rfl rfl f
  carry := flag_applyFlags hl .c f _
  overflow := by rw [flag_applyFlags hl, FlagUpd.at, rotFlags, Option.getD_some, bne_iff_ne]

/-- An instruction whose core sets the flags of the rotates on the byte it makes, `out` leaving it. -/
theorem alu1_rotate {core : Byte → Bool → Byte × FlagUpd} {dst : Place} {s : State} {a d : Byte} {out : Bool}
    (hflags : ∀ c, (core d c).2 = rotFlags d (core d c).1 out) (hwf : s.chip.wf = true) (ha : s.dstAddr dst = .ok a)
    (hd : s.readReg .dst a = .ok d) (hne : a ≠ 0xFC) :
    ∃ fl, alu1 core dst s = .next { s.store (s.loc a) (core d (s.flag .c)).1 with flags := fl }.retire ∧
      RotateFlags s.chip.flagBits d (core d (s.flag .c)).1 out s.flags fl := by
  rw [alu1_of_read core ha hd hne, hflags]
  exact ⟨_, rfl, rotateFlags_applyFlags (flagBits_wf hwf) d _ out s.flags⟩

/-- Settles O41: the four instructions in one shape; through the carry, the new C is the bit that left. -/
theorem rotateResult : Obligations.RotateResult := by
  intro f s a d hwf ha hd hne
  rw [exec_rl, exec_rr, exec_rlc, exec_rrc]
  refine ⟨?_, ?_, ?_, ?_⟩
  · obtain ⟨fl, hexec, hfl⟩ := alu1_rotate (core := rlCore) (fun _ => rfl) hwf ha hd hne
    exact ⟨_, fl, hexec, rlCore_result d _, hfl⟩
  · obtain ⟨fl, hexec, hfl⟩ := alu1_rotate (core := rrCore) (fun _ => rfl) hwf ha hd hne
    exact ⟨_, fl, hexec, rrCore_result d _, hfl⟩
  · obtain ⟨fl, hexec, hfl⟩ := alu1_rotate (core := rlcCore) (fun _ => rfl) hwf ha hd hne
    exact ⟨_, fl, hexec, by rw [hfl.carry, rlcCore_result], hfl⟩
  · obtain ⟨fl, hexec, hfl⟩ := alu1_rotate (core := rrcCore) (fun _ => rfl) hwf ha hd hne
    exact ⟨_, fl, hexec, by rw [hfl.carry, rrcCore_result], hfl⟩

/-! ## SRA and SWAP (42_rotate_shift.md R185, R186) -/

/-- An arithmetic shift by one puts the sign above the bits that stay. -/
theorem sshiftRight_one_eq_append {w : Nat} (x : BitVec (1 + w)) :
    x.sshiftRight 1 = BitVec.ofBool x.msb ++ x.extractLsb' 1 w := by
  ext i hi
  by_cases h : i < w
  · simp [BitVec.getElem_sshiftRight, BitVec.getElem_append, h, BitVec.getLsbD_eq_getElem]
  · simp [BitVec.getElem_sshiftRight, BitVec.getElem_append, h]

theorem sraCore_result (d : Byte) (c : Bool) : (sraCore d c).1 = d.sshiftRight 1 := by
  have hshift := sshiftRight_one_eq_append (w := 7) d
  rw [BitVec.msb_eq_getLsbD_last, ← extractLsb'_one_eq_ofBool] at hshift
  exact hshift.symm

theorem toInt_emod_two (d : Byte) : d.toInt % 2 = (d.getLsbD 0).toNat := by
  have hbit : (d.getLsbD 0).toNat = d.toNat % 2 := by
    rw [BitVec.getLsbD, Nat.toNat_testBit, Nat.pow_zero, Nat.div_one]
  rw [hbit, byte_toInt]
  split <;> omega

theorem two_mul_sraCore (d : Byte) (c : Bool) : 2 * (sraCore d c).1.toInt + (d.getLsbD 0).toNat = d.toInt := by
  rw [sraCore_result, BitVec.toInt_sshiftRight, Int.shiftRight_eq_div_pow, ← toInt_emod_two]
  exact Int.mul_ediv_add_emod d.toInt 2

theorem swapCore_result_toNat (d : Byte) (v : Bool) :
    (swapCore d v).1.toNat = 16 * (d.toNat % 16) + d.toNat / 16 := by
  rw [swapCore, nibbles_toNat, loNib_toNat, hiNib_toNat]

/-- Settles O42: each core's byte, with the flags of the result it stores. -/
theorem sraSwapResult : Obligations.SraSwapResult := by
  intro f s a d hwf ha hd hne
  have hl := flagBits_wf hwf
  rw [exec_sra, exec_swap]
  refine ⟨⟨_, _, alu1_of_read sraCore ha hd hne, ?_, zeroSign_applyFlags hl rfl rfl s.flags,
      keepsDH_applyFlags hl rfl rfl s.flags, flag_applyFlags hl .v s.flags _⟩,
    ⟨_, _, alu1_of_read (fun d _ => swapCore d (Config.freeFlag s.time .v)) ha hd hne,
      swapCore_result_toNat d _, byteFlags_applyFlags hl rfl rfl rfl rfl rfl s.flags⟩⟩
  rw [flag_applyFlags hl]
  exact two_mul_sraCore d _

end Sys2Proof.Machine

/-! PROOFS of the family 43_load.md: CLR and LD (R200 to R207), LDC and LDE (R210, R212), LDCI and LDEI (R211, R213), PUSH and
POP (R214, R215), and the memory bytes an instruction leaves as they were. -/

namespace Sys2Proof.Machine

/-! ## CLR and LD (43_load.md R200 to R207) -/

theorem exec_clr (f : OneForm) (s : State) : exec f.clr s = load f.place (.imm 0x00) s := by cases f <;> rfl

theorem exec_ld (f : LoadForm) (s : State) : exec f.ld s = load f.dst f.src s := by cases f <;> rfl

theorem fullAddress_iff {b : Byte} : fullAddress b = true ↔ b.toNat / 16 ≠ 0xE := by
  rw [fullAddress, bne_iff_ne, ← BitVec.toNat_inj.ne, hiNib_toNat]
  rfl

theorem execLd_R_r_next {dst : Byte} {n : Nibble} {s t : State} : execLd_R_r dst n s = .next t ↔
    ∃ v, fullAddress dst = true ∧ s.readWr .src n = .ok v ∧ s.absent dst = false ∧
      t = (s.store (s.loc dst) v).retire := by
  cases hf : fullAddress dst with
  | false => simp [execLd_R_r, hf]
  | true =>
    simp only [execLd_R_r, hf, Bool.not_true, Bool.false_eq_true, if_false, finish_next, bind_ok, writeReg_ok]
    constructor
    · rintro ⟨u, ⟨v, hv, hp, rfl⟩, rfl⟩; exact ⟨v, trivial, hv, hp, rfl⟩
    · rintro ⟨v, -, hv, hp, rfl⟩; exact ⟨_, ⟨v, hv, hp, rfl⟩, rfl⟩

/-- An escaped byte is refused before the source is read (30_encoding.md R110). -/
theorem execLd_R_r_escape {dst : Byte} {n : Nibble} {s : State} (h : fullAddress dst = false) :
    execLd_R_r dst n s = .fault .escapeInR9 := by
  simp [execLd_R_r, h]

/-- Settles O43: CLR and all LD forms but one are loads, and LD R,r is one for a full address. -/
theorem clrLdResult : Obligations.ClrLdResult := by
  refine ⟨fun f s a ha hp => ?_, fun f s a v ha hv hp => ?_, fun dst n s v hd hv hp => ?_, fun dst n s hd => ?_⟩
  · rw [exec_clr]
    exact load_next.mpr ⟨a, 0x00, ha, rfl, hp, rfl⟩
  · rw [exec_ld]
    exact load_next.mpr ⟨a, v, ha, hv, hp, rfl⟩
  · exact execLd_R_r_next.mpr ⟨v, fullAddress_iff.mpr hd, hv, hp, rfl⟩
  · exact execLd_R_r_escape (Bool.eq_false_iff.mpr fun hf => fullAddress_iff.mp hf hd)

/-! ## What the part's memories allow (20_memory.md R76, R78; 43_load.md R210; log 19) -/

theorem any_holds_iff {rs : List AddrRange} {a : Word} : rs.any (·.holds a) = true ↔ Listed rs a := by
  simp [AddrRange.holds, Listed]

section

variable {s : State} {a : Word} {v : Byte}

theorem reaches_iff : s.reaches a = true ↔ ¬ Listed s.chip.progUnreached a := by
  rw [State.reaches, Bool.not_eq_true', ← Bool.not_eq_true, any_holds_iff]

theorem mayWriteProg_iff : s.mayWriteProg a = true ↔
    s.chip.extProg = true ∧ ¬ Listed s.chip.progReadOnly a ∧ ¬ Listed s.chip.progUnreached a := by
  rw [State.mayWriteProg, Bool.and_eq_true, Bool.and_eq_true, Bool.not_eq_true', ← Bool.not_eq_true, any_holds_iff,
    reaches_iff, and_assoc]

theorem readProg_of_unreached (h : ¬ s.reaches a = true) : s.readProg a = .error .notOnThisPart := if_neg h

theorem writeProg_of_not_mayWriteProg (h : ¬ s.mayWriteProg a = true) :
    s.writeProg a v = .error .notOnThisPart := if_pos (by simpa using h)

theorem writeProg_of_inPipeline (hw : s.mayWriteProg a = true) (h : s.inPipeline a = true) :
    s.writeProg a v = .error .storeIntoPipeline := by
  rw [State.writeProg, if_neg (by simp [hw]), if_pos h]

theorem readData_of_no_extData (h : s.chip.extData = false) : s.readData a = .error .notOnThisPart := by
  simp [State.readData, h]

theorem writeData_of_no_extData (h : s.chip.extData = false) : s.writeData a v = .error .notOnThisPart := by
  simp [State.writeData, h]

end

/-! ## LDC and LDE (43_load.md R210, R212) -/

section

variable {s : State} {n m : Nibble} {a : Word} {v : Byte} {e : Fault}

theorem loadByte_of_read_error {read : State → Word → Res Byte} (ha : s.readWrPair m = .ok a)
    (he : read s a = .error e) : loadByte read n m s = .fault e := by
  simp only [loadByte, ha, ok_bind, he, error_bind, finish_error]

theorem storeByte_of_write_error {write : State → Word → Byte → Res State} (ha : s.readWrPair m = .ok a)
    (hv : s.readWr .src n = .ok v) (he : write s a v = .error e) : storeByte write n m s = .fault e := by
  simp only [storeByte, ha, hv, ok_bind, he, finish_error]

end

/-- Settles O44: once the pair is read, each form does what the one access to its memory does. -/
theorem ldcLdeResult : Obligations.LdcLdeResult := by
  intro s n m a ha ahead reached writable
  have hreach : s.reaches a = true ↔ reached := reaches_iff
  have hwritable : s.mayWriteProg a = true ↔ writable := mayWriteProg_iff
  have hahead : s.inPipeline a = true ↔ ahead := inPipeline_iff
  refine ⟨fun hn => ⟨fun hr => ?_, fun hd => ?_⟩, fun v hv => ⟨fun hw hp => ?_, fun hw hp => ?_, fun hw => ?_,
    fun hd => ?_, fun hd => ?_⟩, fun hr => ?_, fun hd => ?_⟩
  · exact loadByte_next.mpr ⟨a, _, ha, readProg_ok.mpr ⟨hreach.mpr hr, rfl⟩, hn, rfl⟩
  · exact loadByte_next.mpr ⟨a, _, ha, readData_ok.mpr ⟨hd, rfl⟩, hn, rfl⟩
  · exact storeByte_next.mpr ⟨a, v, _, ha, hv,
      writeProg_ok.mpr ⟨hwritable.mpr hw, Bool.eq_false_iff.mpr (mt hahead.mp hp), rfl⟩, rfl⟩
  · exact storeByte_of_write_error ha hv (writeProg_of_inPipeline (hwritable.mpr hw) (hahead.mpr hp))
  · exact storeByte_of_write_error ha hv (writeProg_of_not_mayWriteProg (mt hwritable.mp hw))
  · exact storeByte_next.mpr ⟨a, v, _, ha, hv, writeData_ok.mpr ⟨hd, rfl⟩, rfl⟩
  · exact storeByte_of_write_error ha hv (writeData_of_no_extData hd)
  · exact loadByte_of_read_error ha (readProg_of_unreached (mt hreach.mp hr))
  · exact loadByte_of_read_error ha (readData_of_no_extData hd)

/-! ## LDCI and LDEI (43_load.md R211, R213; 20_memory.md R71) -/

/-- `u` with the byte pointer gone up from `ra` and the pair from `a`, in the registers they are under the RP of `s`. -/
def State.pointersMoved (s : State) (n m : Nibble) (a : Word) (u : State) (ra : Byte) : State :=
  ((u.store (s.loc (s.wrAddr n)) (ra + 1)).store (s.loc (s.wrAddr m)) (hiByte (a + 1))).store
    (s.loc (s.wrAddr (m + 1))) (loByte (a + 1))

section

variable {s u : State} {n m : Nibble} {k : ReadSlot} {a : Word} {ra v : Byte} {e : Fault}

/-- As long as RP is what it was, a working register that could be read can be written, at the same place. -/
theorem writeWr_of_readWr (hc : u.chip = s.chip) (hr : u.rp = s.rp) (h : s.readWr k n = .ok v) (w : Byte) :
    u.writeWr n w = .ok (u.store (s.loc (s.wrAddr n)) w) := by
  refine writeReg_ok.mpr ⟨?_, ?_⟩
  · rw [wrAddr_congr hr, absent_congr hc hr]
    exact (readReg_ok.mp h).1
  · rw [wrAddr_congr hr, loc_congr hc hr]

/-- Neither the byte pointer nor the high half of the pair is RP, so every pointer moves in the register it was read from. -/
theorem incPointers_of_readPointers (h : s.readPointers k n m = .ok (ra, a)) (hc : u.chip = s.chip) (hr : u.rp = s.rp)
    (x : Byte) : u.incPointers n m x a = .ok (s.pointersMoved n m a u x) := by
  obtain ⟨hclash, hbyte, hpair⟩ := readPointers_ok.mp h
  obtain ⟨heven, hi, lo, hhi, hlo, -⟩ := readWrPair_ok.mp hpair
  have hn : s.loc (s.wrAddr n) ≠ .rp := mt loc_eq_rp.mp (wrAddr_ne_rp_of_not_pointerClash hclash)
  have hm : s.loc (s.wrAddr m) ≠ .rp := mt loc_eq_rp.mp (wrAddr_ne_rp_of_even s heven)
  have hc1 := (u.store_chip (s.loc (s.wrAddr n)) (x + 1)).trans hc
  have hr1 := (u.store_rp_of_ne (x + 1) hn).trans hr
  have hc2 := (State.store_chip _ (s.loc (s.wrAddr m)) (hiByte (a + 1))).trans hc1
  have hr2 := (State.store_rp_of_ne _ (hiByte (a + 1)) hm).trans hr1
  exact incPointers_ok.mpr ⟨_, _, writeWr_of_readWr hc hr hbyte _, writeWr_of_readWr hc1 hr1 hhi _,
    writeWr_of_readWr hc2 hr2 hlo _⟩

theorem loadByteInc_of_read {read : State → Word → Res Byte} (h : s.readPointers .dstPtr n m = .ok (ra, a))
    (hd : s.dataClash n m ra = false) (hv : read s a = .ok v) (hp : s.absent ra = false) :
    loadByteInc read n m s = .next (s.pointersMoved n m a (s.store (s.loc ra) v) ra).retire := by
  obtain ⟨hclash, hbyte, hpair⟩ := readPointers_ok.mp h
  exact loadByteInc_next.mpr ⟨a, ra, v, _, _, hpair, hclash, hbyte, hd, hv, writeReg_ok.mpr ⟨hp, rfl⟩,
    incPointers_of_readPointers h (s.store_chip _ v) (store_rp_of_addr_ne s v (ne_rp_of_not_dataClash hd)) ra, rfl⟩

theorem loadByteInc_of_read_error {read : State → Word → Res Byte} (h : s.readPointers .dstPtr n m = .ok (ra, a))
    (hd : s.dataClash n m ra = false) (he : read s a = .error e) : loadByteInc read n m s = .fault e := by
  simp only [loadByteInc, h, ok_bind, hd, Bool.false_eq_true, if_false, he, error_bind, finish_error]

theorem storeByteInc_of_write {write : State → Word → Byte → Res State} (h : s.readPointers .srcPtr n m = .ok (ra, a))
    (hv : s.readReg .src ra = .ok v) (hw : write s a v = .ok u) (hc : u.chip = s.chip) (hr : u.rp = s.rp) :
    storeByteInc write n m s = .next (s.pointersMoved n m a u ra).retire := by
  obtain ⟨hclash, hbyte, hpair⟩ := readPointers_ok.mp h
  exact storeByteInc_next.mpr ⟨a, ra, v, u, _, hpair, hclash, hbyte, hv, hw, incPointers_of_readPointers h hc hr ra, rfl⟩

theorem storeByteInc_of_write_error {write : State → Word → Byte → Res State}
    (h : s.readPointers .srcPtr n m = .ok (ra, a)) (hv : s.readReg .src ra = .ok v) (he : write s a v = .error e) :
    storeByteInc write n m s = .fault e := by
  simp only [storeByteInc, h, ok_bind, hv, he, error_bind, finish_error]

end

/-- Settles O45: the access to memory decides between the fault and the move, after which both pointers go up. -/
theorem ldciLdeiResult : Obligations.LdciLdeiResult := by
  intro s n m a ha hnm hnm' hrp moved ahead reached writable
  have hreach : s.reaches a = true ↔ reached := reaches_iff
  have hwritable : s.mayWriteProg a = true ↔ writable := mayWriteProg_iff
  have hahead : s.inPipeline a = true ↔ ahead := inPipeline_iff
  have hclash : s.pointerClash n m = false :=
    Bool.eq_false_iff.mpr (mt pointerClash_iff.mp (by simp only [hnm, hnm', hrp, or_self, not_false_eq_true]))
  refine ⟨fun ra hra hdata => ?_, fun ra v hra hv => ?_⟩
  · have hptr : s.readPointers .dstPtr n m = .ok (ra, a) := readPointers_ok.mpr ⟨hclash, hra, ha⟩
    have hd : s.dataClash n m ra = false := Bool.eq_false_iff.mpr (mt dataClash_iff.mp hdata)
    refine ⟨fun hp hr => ?_, fun hr => ?_, fun hp hx => ?_, fun hx => ?_⟩
    · exact loadByteInc_of_read hptr hd (readProg_ok.mpr ⟨hreach.mpr hr, rfl⟩) hp
    · exact loadByteInc_of_read_error hptr hd (readProg_of_unreached (mt hreach.mp hr))
    · exact loadByteInc_of_read hptr hd (readData_ok.mpr ⟨hx, rfl⟩) hp
    · exact loadByteInc_of_read_error hptr hd (readData_of_no_extData hx)
  · have hptr : s.readPointers .srcPtr n m = .ok (ra, a) := readPointers_ok.mpr ⟨hclash, hra, ha⟩
    refine ⟨fun hw hp => ?_, fun hw hp => ?_, fun hw => ?_, fun hx => ?_, fun hx => ?_⟩
    · exact storeByteInc_of_write hptr hv
        (writeProg_ok.mpr ⟨hwritable.mpr hw, Bool.eq_false_iff.mpr (mt hahead.mp hp), rfl⟩) rfl rfl
    · exact storeByteInc_of_write_error hptr hv (writeProg_of_inPipeline (hwritable.mpr hw) (hahead.mpr hp))
    · exact storeByteInc_of_write_error hptr hv (writeProg_of_not_mayWriteProg (mt hwritable.mp hw))
    · exact storeByteInc_of_write hptr hv (writeData_ok.mpr ⟨hx, rfl⟩) rfl rfl
    · exact storeByteInc_of_write_error hptr hv (writeData_of_no_extData hx)

/-! ## The stack pointer of each kind of stack (10_state.md R31; log 21) -/

theorem sp_external {s : State} (h : s.chip.stackExternal = true) : s.sp = word16 s.sph s.spl := by simp [State.sp, h]

theorem loByte_sp (s : State) : loByte s.sp = s.spl := by
  cases h : s.chip.stackExternal
  · rw [sp_internal h, loByte_zext16]
  · rw [sp_external h, loByte_word16]

theorem setSp_internal {s : State} (h : s.chip.stackExternal = false) (a : Word) :
    s.setSp a = { s with spl := loByte a } := by simp [State.setSp, h]

theorem setSp_external {s : State} (h : s.chip.stackExternal = true) (a : Word) :
    s.setSp a = { s with sph := hiByte a, spl := loByte a } := by simp [State.setSp, h]

theorem isStackPointer_eq_false {a : Byte} (hh : a ≠ 0xFE) (hl : a ≠ 0xFF) : isStackPointer a = false :=
  Bool.eq_false_iff.mpr fun h => (isStackPointer_iff.mp h).elim hh hl

/-! ## PUSH and POP (43_load.md R214, R215; 10_state.md R32) -/

section

variable {s : State} {v : Byte} {k : ReadSlot}

theorem push8_internal (hx : s.chip.stackExternal = false) (hp : s.absent (s.spl - 1) = false) :
    s.push8 v = .ok ({ s with spl := s.spl - 1 }.store (s.loc (s.spl - 1)) v) := by
  have hlow : loByte (s.stackAddr (s.sp - 1)) = s.spl - 1 := by
    rw [loByte_stackAddr, loByte_sub, loByte_sp]
    rfl
  rw [push8_ok, setSp_internal hx, hlow]
  exact stackWrite_ok.mpr (.inr ⟨hx, by rw [hlow]; exact hp, by rw [hlow]; rfl⟩)

theorem push8_external (hx : s.chip.stackExternal = true) (hd : s.chip.extData = true) {p : Word}
    (hp : word16 s.sph s.spl - 1 = p) :
    s.push8 v = .ok { s with sph := hiByte p, spl := loByte p, data := memWrite s.data p.toNat v } := by
  rw [push8_ok, stackAddr_external hx, sp_external hx, hp, setSp_external hx]
  exact stackWrite_ok.mpr (.inl ⟨hx, hd, rfl⟩)

theorem push8_of_no_extData (hx : s.chip.stackExternal = true) (hd : s.chip.extData = false) :
    s.push8 v = .error .notOnThisPart := by
  simp [State.push8, State.stackWrite, State.writeData, hx, hd]

theorem pop8_internal (hx : s.chip.stackExternal = false) (hv : s.readReg k s.spl = .ok v) :
    s.pop8 k = .ok (v, { s with spl := s.spl + 1 }) := by
  refine pop8_ok.mpr ⟨?_, ?_⟩
  · rw [stackRead_internal hx, loByte_sp, hv]
  · rw [setSp_internal hx, loByte_stackAddr, loByte_add, loByte_sp]
    rfl

theorem pop8_external (hx : s.chip.stackExternal = true) (hd : s.chip.extData = true) {p : Word}
    (hp : word16 s.sph s.spl = p) :
    s.pop8 k = .ok (memRead s.data p.toNat, { s with sph := hiByte (p + 1), spl := loByte (p + 1) }) := by
  refine pop8_ok.mpr ⟨?_, ?_⟩
  · rw [stackRead_external hx hd, sp_external hx, hp]
  · rw [stackAddr_external hx, sp_external hx, hp, setSp_external hx]

theorem pop8_of_no_extData (hx : s.chip.stackExternal = true) (hd : s.chip.extData = false) :
    s.pop8 k = .error .notOnThisPart := by
  simp [State.pop8, State.stackRead, State.readData, hx, hd]

end

section

variable {s : State} {a v : Byte} {e : Fault}

theorem push_of_push8_error {src : Place} (ha : s.placeAddr .srcPtr src = .ok a) (hsp : isStackPointer a = false)
    (hv : s.readReg .src a = .ok v) (he : s.push8 v = .error e) : push src s = .fault e := by
  simp only [push, ha, ok_bind, hsp, Bool.false_eq_true, if_false, hv, he, finish_error]

theorem pop_of_pop8_error {dst : Place} (ha : s.dstAddr dst = .ok a) (hsp : isStackPointer a = false)
    (he : s.pop8 .stack0 = .error e) : pop dst s = .fault e := by
  simp only [pop, ha, ok_bind, hsp, Bool.false_eq_true, if_false, he, error_bind, finish_error]

/-- The destination is the register its address reached before SP moved. -/
theorem pop_of_pop8 {dst : Place} {u : State} (ha : s.dstAddr dst = .ok a) (hsp : isStackPointer a = false)
    (hp : s.absent a = false) (hpop : s.pop8 .stack0 = .ok (v, u)) :
    pop dst s = .next (u.store (s.loc a) v).retire := by
  obtain ⟨-, hu⟩ := pop8_ok.mp hpop
  obtain rfl : u = s.setSp (s.stackAddr (s.sp + 1)) := hu
  refine pop_next.mpr ⟨a, v, _, _, ha, hsp, hpop, writeReg_ok.mpr ⟨?_, rfl⟩, ?_⟩
  · rw [absent_congr (s.setSp_chip _) (s.setSp_rp _), hp]
  · rw [loc_setSp]

end

/-- Settles O46: the source is read, and the byte pushed on each kind of stack. -/
theorem pushResult : Obligations.PushResult := by
  intro f s a v ha hFE hFF hv
  have hsp := isStackPointer_eq_false hFE hFF
  rw [exec_push]
  exact ⟨fun hx hp => push_next.mpr ⟨a, v, _, ha, hsp, hv, push8_internal hx hp, rfl⟩,
    fun hx hd => push_next.mpr ⟨a, v, _, ha, hsp, hv, push8_external hx hd rfl, rfl⟩,
    fun hx hd => push_of_push8_error ha hsp hv (push8_of_no_extData hx hd)⟩

/-- Settles O47: the byte popped from each kind of stack goes to the destination formed before. -/
theorem popResult : Obligations.PopResult := by
  intro f s a v ha hFE hFF hp
  have hsp := isStackPointer_eq_false hFE hFF
  rw [exec_pop]
  exact ⟨fun hx hv => pop_of_pop8 ha hsp hp (pop8_internal hx hv),
    fun hx hd => pop_of_pop8 ha hsp hp (pop8_external hx hd rfl),
    fun hx hd => pop_of_pop8_error ha hsp (pop8_of_no_extData hx hd)⟩

/-! ## The memory bytes an instruction leaves (20_memory.md R68) -/

/-- Settles O59: what an instruction stores to is what the claims list for it. -/
theorem memoryFrame : Obligations.MemoryFrame := by
  intro i s t hprog hdata h a
  have hstores := exec_storesIn h
  exact ⟨(hstores.prog hprog).2 a, (hstores.data hdata).2 a⟩

end Sys2Proof.Machine

/-! PROOFS of the family 44_control_transfer.md: JP and JR (R233, R234), DJNZ (R231), CALL (R230), RET and IRET (R235, R232), and
IRET as the inverse of interrupt entry (60_exceptions.md R285). -/

namespace Sys2Proof.Machine

/-! ## Jumps (10_state.md R29; 30_encoding.md R100; log 22) -/

/-- A relative jump adds the signed displacement and wraps at the ends of program memory. -/
theorem relative_eq (s : State) (d : Byte) : s.relative d = BitVec.ofInt 16 (s.pc.toNat + d.toInt) := by
  have hpc : BitVec.ofInt 16 s.pc.toNat = s.pc := by rw [BitVec.ofInt_natCast, BitVec.ofNat_toNat, BitVec.setWidth_eq]
  rw [BitVec.ofInt_add, hpc]
  rfl

theorem jumpIf_eq (s : State) (c : Bool) (a : Word) : (if c then s.jump a else s) = { s with pc := if c then a else s.pc } := by
  cases c <;> rfl

theorem evenPair_even {p : Byte} (hp : p.toNat % 2 = 0) : evenPair p = .ok p :=
  evenPair_ok.mpr ⟨Bool.eq_false_iff.mpr fun h => by rw [isOdd_iff] at h; omega, rfl⟩

theorem execJp_IRR_of_readPair {s : State} {o : RegOp} {w : Word} (ho : (s.regAddr o).toNat % 2 = 0)
    (hw : s.readPair (s.regAddr o) = .ok w) : execJp_IRR o s = .next (s.jump w).retire := by
  simp only [execJp_IRR, evenPair_even ho, hw, ok_bind]
  rfl

/-- Settles O50: each form is a jump under its condition, JP IRR one under none. -/
theorem jumpResult : Obligations.JumpResult := by
  refine fun s => ⟨fun o w ho hw => execJp_IRR_of_readPair ho hw, fun cc dst => ?_, fun cc dst => ?_⟩
  · calc exec (.jp_cc_DA cc dst) s = .next (if s.cond cc then s.jump dst else s).retire := rfl
      _ = _ := by rw [jumpIf_eq]
  · calc exec (.jr_cc_RA cc dst) s = .next (if s.cond cc then s.jump (s.relative dst) else s).retire := rfl
      _ = _ := by rw [jumpIf_eq, relative_eq]

/-! ## DJNZ (44_control_transfer.md R231; 70_reset_and_hazards.md R322) -/

theorem isGeneral_iff {a : Byte} : isGeneral a = true ↔ 4 ≤ a.toNat ∧ a.toNat < 0xF0 := by simp [isGeneral]

theorem execDjnz_of_not_isGeneral {s : State} {n : Nibble} (dst : Byte) (h : ¬ isGeneral (s.wrAddr n) = true) :
    execDjnz_r_RA n dst s = .fault .djnzOnNonGeneralRegister := by
  simp only [execDjnz_r_RA, Bool.not_eq_true _ ▸ h]
  rfl

theorem execDjnz_of_readWr {s : State} {n : Nibble} {x : Byte} (dst : Byte) (h : isGeneral (s.wrAddr n) = true)
    (hx : s.readWr .dst n = .ok x) :
    execDjnz_r_RA n dst s = .next (if x - 1 != 0 then (s.store (s.loc (s.wrAddr n)) (x - 1)).jump (s.relative dst)
      else s.store (s.loc (s.wrAddr n)) (x - 1)).retire := by
  have hw : s.writeWr n (x - 1) = .ok (s.store (s.loc (s.wrAddr n)) (x - 1)) :=
    writeReg_ok.mpr ⟨(readReg_ok.mp hx).1, rfl⟩
  simp only [execDjnz_r_RA, h, hx, hw, ok_bind]
  rfl

/-- Settles O51: the counter's address decides between the fault and the count, its new value whether the jump is taken. -/
theorem djnzResult : Obligations.DjnzResult := by
  intro s n dst
  refine ⟨fun x hlo hhi hx => ?_, fun hout => ?_⟩
  · have hrun := execDjnz_of_readWr dst (isGeneral_iff.mpr ⟨hlo, hhi⟩) hx
    rw [jumpIf_eq, State.store_pc, relative_eq] at hrun
    by_cases hlast : x = 1
    · subst hlast
      exact hrun
    · have hgo : (x - 1 != 0) = true := bne_iff_ne.mpr (by bv_omega)
      rw [if_pos hgo] at hrun
      rw [if_neg hlast]
      exact hrun
  · exact execDjnz_of_not_isGeneral dst fun h => by rw [isGeneral_iff] at h; omega

/-! ## CALL (44_control_transfer.md R230; 10_state.md R32) -/

theorem absent_store_succ (s : State) (a v : Byte) : (s.store (s.loc a) v).absent (a + 1) = s.absent (a + 1) := by
  by_cases ha : a = 0xFD
  · have hhigh : 16 ≤ (a + 1).toNat := by rw [ha]; decide
    rw [absent_of_high _ hhigh, absent_of_high _ hhigh, State.store_chip]
  · exact absent_congr (s.store_chip _ v) (store_rp_of_addr_ne s v ha) (a + 1)

section

variable {s : State} {w : Word} {kh kl : ReadSlot}

/-- On an internal stack the low byte goes where the address led before the high byte was written, be that byte RP itself. -/
theorem push16_internal (hx : s.chip.stackExternal = false) (h2 : s.absent (s.spl - 2) = false)
    (h1 : s.absent (s.spl - 1) = false) :
    s.push16 w = .ok (({ s with spl := s.spl - 2 }.store (s.loc (s.spl - 2)) (hiByte w)).store (s.loc (s.spl - 1))
      (loByte w)) := by
  have hhi : loByte (s.stackAddr (s.sp - 2)) = s.spl - 2 := by rw [loByte_stackAddr, loByte_sub, loByte_sp]; rfl
  have hnext : s.spl - 2 + 1 = s.spl - 1 := by bv_omega
  have hlo : loByte (s.stackAddr (s.stackAddr (s.sp - 2) + 1)) = s.spl - 1 := by
    rw [loByte_stackAddr, loByte_add, hhi, ← hnext]; rfl
  have hloc := loc_store_succ { s with spl := s.spl - 2 } (s.spl - 2) (hiByte w)
  have habs := absent_store_succ { s with spl := s.spl - 2 } (s.spl - 2) (hiByte w)
  rw [hnext] at hloc habs
  rw [push16_ok, setSp_internal hx, hhi]
  refine ⟨_, stackWrite_ok.mpr (.inr ⟨hx, by rw [hhi]; exact h2, rfl⟩), stackWrite_ok.mpr (.inr ⟨?_, ?_, ?_⟩)⟩
  · rw [State.store_chip]; exact hx
  · rw [hhi, hlo]; exact habs.trans h1
  · rw [hhi, hlo]; exact congrArg (State.store _ · _) hloc.symm

theorem push16_external (hx : s.chip.stackExternal = true) (hd : s.chip.extData = true) {p : Word}
    (hp : word16 s.sph s.spl - 2 = p) :
    s.push16 w = .ok { s with
      sph := hiByte p, spl := loByte p
      data := memWrite (memWrite s.data p.toNat (hiByte w)) (p + 1).toNat (loByte w) } := by
  rw [push16_ok, stackAddr_external hx, stackAddr_external hx, sp_external hx, hp, setSp_external hx]
  exact ⟨_, stackWrite_ok.mpr (.inl ⟨hx, hd, rfl⟩), stackWrite_ok.mpr (.inl ⟨hx, hd, rfl⟩)⟩

theorem push16_of_no_extData (hx : s.chip.stackExternal = true) (hd : s.chip.extData = false) :
    s.push16 w = .error .notOnThisPart := by
  simp [State.push16, State.stackWrite, State.writeData, hx, hd]

/-- CALL IRR on a pair other than SP's is CALL to the pair's word, read before the push. -/
theorem execCall_IRR_of_readPair {o : RegOp} (ho : (s.regAddr o).toNat % 2 = 0) (hne : s.regAddr o ≠ 0xFE)
    (hw : s.readPair (s.regAddr o) = .ok w) : execCall_IRR o s = finish (s.call w) := by
  simp only [execCall_IRR, evenPair_even ho, ok_bind, if_neg hne, hw]

theorem finish_call_of_push16 {u : State} (h : s.push16 s.pc = .ok u) (t : Word) :
    finish (s.call t) = .next (u.jump t).retire := by
  rw [call_ok.mpr ⟨u, h, rfl⟩, finish_ok]

theorem finish_call_of_push16_error {e : Fault} (h : s.push16 s.pc = .error e) (t : Word) :
    finish (s.call t) = .fault e := by
  rw [State.call, h, error_bind, finish_error]

end

/-- Settles O48: both forms are one call, and a call is the push of the PC and a jump. -/
theorem callResult : Obligations.CallResult := by
  intro s i dst hi
  have hcall : exec i s = finish (s.call dst) := by
    obtain rfl | ⟨o, rfl, ho, hne, hw⟩ := hi
    · rfl
    · exact execCall_IRR_of_readPair ho hne hw
  rw [hcall]
  exact ⟨fun hx h2 h1 => finish_call_of_push16 (push16_internal hx h2 h1) dst,
    fun hx hd => finish_call_of_push16 (push16_external hx hd rfl) dst,
    fun hx hd => finish_call_of_push16_error (push16_of_no_extData hx hd) dst⟩

/-! ## RET and IRET (44_control_transfer.md R232, R235; log 4) -/

section

variable {s : State} {w : Word} {kh kl : ReadSlot}

theorem pop16_internal {h l : Byte} (hx : s.chip.stackExternal = false) (hh : s.readReg kh s.spl = .ok h)
    (hl : s.readReg kl (s.spl + 1) = .ok l) :
    s.pop16 kh kl = .ok (word16 h l, { s with spl := s.spl + 2 }) := by
  have hstep (b : Word) : loByte (s.stackAddr (s.sp + b)) = s.spl + loByte b := by
    rw [loByte_stackAddr, loByte_add, loByte_sp]
  refine pop16_ok.mpr ⟨h, l, ?_, ?_, ?_⟩
  · rw [stackRead_internal hx, loByte_sp, hh]
  · rw [stackRead_internal hx, hstep]; exact hl
  · rw [setSp_internal hx, hstep]; rfl

theorem pop16_external (hx : s.chip.stackExternal = true) (hd : s.chip.extData = true) {p : Word}
    (hp : word16 s.sph s.spl = p) :
    s.pop16 kh kl = .ok (word16 (memRead s.data p.toNat) (memRead s.data (p + 1).toNat),
      { s with sph := hiByte (p + 2), spl := loByte (p + 2) }) := by
  refine pop16_ok.mpr ⟨_, _, stackRead_external hx hd _ _, stackRead_external hx hd _ _, ?_⟩
  rw [stackAddr_external hx, stackAddr_external hx, sp_external hx, hp, setSp_external hx]

theorem pop16_of_no_extData (hx : s.chip.stackExternal = true) (hd : s.chip.extData = false) :
    s.pop16 kh kl = .error .notOnThisPart := by
  simp [State.pop16, State.stackRead, State.readData, hx, hd]

theorem execRet_of_pop16_error {e : Fault} (h : s.pop16 .stack0 .stack1 = .error e) : execRet s = .fault e := by
  rw [execRet, h, error_bind, finish_error]

theorem execIret_of_pops {s1 s2 : State} {f : Byte} (hf : s.pop8 .stack0 = .ok (f, s1))
    (hw : { s1 with flags := f }.pop16 .stack1 .stack2 = .ok (w, s2)) :
    execIret s = .next { s2 with pc := w, imr := setBit s2.imr 7 true }.retire := by
  rw [execIret, leaveInterrupt_ok.mpr ⟨f, s1, w, s2, hf, hw, rfl⟩, finish_ok]

theorem execIret_of_pop8_error {e : Fault} (h : s.pop8 .stack0 = .error e) : execIret s = .fault e := by
  rw [execIret, State.leaveInterrupt, h, error_bind, finish_error]

theorem setBit_seven_true (b : Byte) : setBit b 7 true = b ||| 0x80 := rfl

theorem execIret_internal {f h l : Byte} (hx : s.chip.stackExternal = false) (hf : s.readReg .stack0 s.spl = .ok f)
    (hh : { s with flags := f, spl := s.spl + 1 }.readReg .stack1 (s.spl + 1) = .ok h)
    (hl : { s with flags := f, spl := s.spl + 1 }.readReg .stack2 (s.spl + 2) = .ok l) :
    execIret s = .next { s with flags := f, spl := s.spl + 3, pc := word16 h l, imr := s.imr ||| 0x80 }.retire := by
  have htwo : s.spl + 1 + 1 = s.spl + 2 := by bv_omega
  have hthree : s.spl + 1 + 2 = s.spl + 3 := by bv_omega
  rw [← htwo] at hl
  have hpop := pop16_internal (s := { s with flags := f, spl := s.spl + 1 }) hx hh hl
  rw [execIret_of_pops (pop8_internal hx hf) hpop, hthree, setBit_seven_true]

theorem execIret_external (hx : s.chip.stackExternal = true) (hd : s.chip.extData = true) {p : Word}
    (hp : word16 s.sph s.spl = p) :
    execIret s = .next { s with
      flags := memRead s.data p.toNat
      sph := hiByte (p + 3), spl := loByte (p + 3), imr := s.imr ||| 0x80
      pc := word16 (memRead s.data (p + 1).toNat) (memRead s.data (p + 2).toNat) }.retire := by
  have htwo : p + 1 + 1 = p + 2 := by bv_omega
  have hthree : p + 1 + 2 = p + 3 := by bv_omega
  have hpop := pop16_external (kh := .stack1) (kl := .stack2)
    (s := { s with flags := memRead s.data p.toNat, sph := hiByte (p + 1), spl := loByte (p + 1) }) hx hd
    (word16_hiByte_loByte (p + 1))
  rw [execIret_of_pops (pop8_external hx hd hp) hpop, htwo, hthree, setBit_seven_true]

end

/-- Settles O49: RET is one pop of a word, IRET the pop of a byte and then of a word. -/
theorem returnResult : Obligations.ReturnResult := fun _ _ _ _ =>
  ⟨fun hx hh hl => execRet_of_pop16 (pop16_internal hx hh hl), fun hx hd => execRet_of_pop16 (pop16_external hx hd rfl),
    fun hx hf hh hl => execIret_internal hx hf hh hl, fun hx hd => execIret_external hx hd rfl,
    fun hx hd => ⟨execRet_of_pop16_error (pop16_of_no_extData hx hd), execIret_of_pop8_error (pop8_of_no_extData hx hd)⟩⟩

end Sys2Proof.Machine

namespace Sys2Proof

/-! ## Interrupt entry and its inverse IRET (60_exceptions.md R285; 44_control_transfer.md R232; log 4, log 5) -/

theorem setBit_setBit_of_getLsbD {b : Byte} {i : Nat} {v : Bool} (w : Bool) (hi : i < 8) (h : b.getLsbD i = v) :
    setBit (setBit b i w) i v = b := by
  refine BitVec.eq_of_getLsbD_eq fun j _ => ?_
  rw [getLsbD_setBit _ _ _ _ hi, getLsbD_setBit _ _ _ _ hi]
  by_cases hj : j = i
  · rw [if_pos hj, hj, h]
  · rw [if_neg hj, if_neg hj]

/-- Two steps down the stack that differ mod 256 lead to different bytes, even of an internal stack. -/
theorem loByte_sub_ne (a : Word) {b c : Word} (h : loByte b ≠ loByte c) : loByte (a - b) ≠ loByte (a - c) := by
  rw [loByte_sub, loByte_sub]
  bv_omega

namespace Machine

/-! ### Addresses that wrap to one stack byte (10_state.md R31) -/

section

variable {s t : State} {a b : Word}

theorem stackAddr_stackAddr_sub (s : State) (a b : Word) : s.stackAddr (s.stackAddr a - b) = s.stackAddr (a - b) := by
  rw [BitVec.sub_eq_add_neg, BitVec.sub_eq_add_neg, stackAddr_stackAddr_add]

theorem stackAddr_ne_of_loByte_ne (h : loByte a ≠ loByte b) : s.stackAddr a ≠ s.stackAddr b := fun e =>
  h (by rw [← loByte_stackAddr s a, e, loByte_stackAddr])

theorem mem_stackLocs_iff {l : RegLoc} {as : List Word} :
    l ∈ s.stackLocs as ↔ s.chip.stackExternal = false ∧ ∃ a ∈ as, s.loc (loByte a) = l := by
  cases hx : s.chip.stackExternal <;> simp [State.stackLocs, hx]

theorem mem_stackBytes_iff {as : List Word} : a ∈ s.stackBytes as ↔ s.chip.stackExternal = true ∧ a ∈ as := by
  cases hx : s.chip.stackExternal <;> simp [State.stackBytes, hx]

theorem stackLocs_subset {as bs : List Word} (h : ∀ a ∈ as, ∃ b ∈ bs, s.stackAddr a = s.stackAddr b) :
    ∀ l ∈ s.stackLocs as, l ∈ s.stackLocs bs := by
  intro l hl
  obtain ⟨hx, a, ha, rfl⟩ := mem_stackLocs_iff.mp hl
  obtain ⟨b, hb, hab⟩ := h a ha
  exact mem_stackLocs_iff.mpr ⟨hx, b, hb, by rw [← loByte_stackAddr s a, hab, loByte_stackAddr]⟩

theorem stackBytes_subset {as bs : List Word} (h : ∀ a ∈ as, ∃ b ∈ bs, s.stackAddr a = s.stackAddr b) :
    ∀ a ∈ s.stackBytes as, a ∈ s.stackBytes bs := by
  intro a ha
  obtain ⟨hx, ha⟩ := mem_stackBytes_iff.mp ha
  obtain ⟨b, hb, hab⟩ := h a ha
  rw [stackAddr_external hx, stackAddr_external hx] at hab
  exact mem_stackBytes_iff.mpr ⟨hx, hab ▸ hb⟩

theorem stackLocs_congr (hc : t.chip = s.chip) (hr : t.rp = s.rp) (as : List Word) : t.stackLocs as = s.stackLocs as := by
  simp only [State.stackLocs, hc, loc_congr hc hr]

theorem stackBytes_congr (hc : t.chip = s.chip) (as : List Word) : t.stackBytes as = s.stackBytes as := by
  simp only [State.stackBytes, hc]

/-! ### Plain stack bytes -/

/-- What a plain stack byte reads as depends on the part, RP, the plain registers and data memory alone. -/
theorem State.StackCell.stackRead_congr (h : s.StackCell a) (hc : t.chip = s.chip) (hr : t.rp = s.rp) (hg : t.gpr = s.gpr)
    (hb : t.banks = s.banks) (hd : t.data = s.data) (k : ReadSlot) : t.stackRead k a = s.stackRead k a := by
  cases hx : s.chip.stackExternal with
  | true =>
    rw [stackRead_external hx (h.external hx), stackRead_external (hc ▸ hx) (hc ▸ h.external hx), hd]
  | false =>
    rw [stackRead_internal hx, stackRead_internal (hc ▸ hx)]
    refine readReg_congr hc hr ?_
    obtain ⟨i, hi⟩ | ⟨i, hi⟩ := h.loc hx
    · rw [hi, State.valueAt, State.valueAt, hg]
    · rw [hi, State.valueAt, State.valueAt, hb]

/-- No control register is a plain stack byte. -/
theorem not_mem_stackLocs_of_cells {l : RegLoc} {as : List Word} (h : ∀ a ∈ as, s.StackCell a) (hg : ∀ i, l ≠ .gpr i)
    (hb : ∀ i, l ≠ .bank i) : l ∉ s.stackLocs as := by
  intro hl
  obtain ⟨hx, a, ha, rfl⟩ := mem_stackLocs_iff.mp hl
  obtain ⟨i, hi⟩ | ⟨i, hi⟩ := (h a ha).loc hx
  · exact hg i hi
  · exact hb i hi

theorem push8_of_cell (v : Byte) (ha : s.stackAddr (s.sp - 1) = s.stackAddr a) (h : s.StackCell a)
    (hm : memWf s.data = true) : ∃ t, s.push8 v = .ok t ∧ (s.setSp (s.stackAddr a)).PutsByte a v t := by
  have hc := s.setSp_chip (s.stackAddr a)
  obtain ⟨t, ht, hput⟩ := stackWrite_of_cell v (h.congr hc (s.setSp_rp _)) (by rw [State.setSp_data, hm])
  exact ⟨t, by rw [push8_ok, ha, stackWrite_stackAddr hc, ht], hput⟩

theorem stackWrite_prog {v : Byte} (h : s.stackWrite a v = .ok t) : t.prog = s.prog := by
  obtain ⟨-, -, rfl⟩ | ⟨-, -, rfl⟩ := stackWrite_ok.mp h
  · rfl
  · exact s.store_prog _ v

theorem push8_prog {v : Byte} (h : s.push8 v = .ok t) : t.prog = s.prog :=
  (stackWrite_prog (push8_ok.mp h)).trans (s.setSp_prog _)

theorem push16_prog {w : Word} (h : s.push16 w = .ok t) : t.prog = s.prog := by
  obtain ⟨u, hhi, hlo⟩ := push16_ok.mp h
  exact (stackWrite_prog hlo).trans ((stackWrite_prog hhi).trans (s.setSp_prog _))

/-- What has no flag and not FLAGS itself in its footprint leaves FLAGS as it is. -/
theorem State.Within.flags_eq {F : Footprint} (h : s.Within F t) (hl : .flags ∉ F.locs) (hf : F.flags = []) :
    t.flags = s.flags :=
  BitVec.eq_of_getLsbD_eq fun b _ => h.flags hl b fun x hx => by simp [hf] at hx

/-- With the stack pointer back where it was, so are the registers that hold it. -/
theorem held_of_mem_spLocs {l : RegLoc} (hc : t.chip = s.chip) (hsp : t.sp = s.sp) (hl : l ∈ s.spLocs) :
    t.held l = s.held l := by
  have hspl : t.spl = s.spl := by rw [← loByte_sp, hsp, loByte_sp]
  cases hx : s.chip.stackExternal with
  | false =>
    obtain rfl : l = .spl := by simpa [State.spLocs, hx] using hl
    exact hspl
  | true =>
    rw [sp_external hx, sp_external (hc ▸ hx)] at hsp
    have hsph : t.sph = s.sph := by simpa using congrArg hiByte hsp
    obtain rfl | rfl : l = .sph ∨ l = .spl := by simpa [State.spLocs, hx] using hl
    · exact hsph
    · exact hspl

end

/-! ### What entry saves -/

/-- The stack addresses interrupt entry writes. -/
def State.entryAddrs (s : State) : List Word := [s.sp - 1, s.sp - 2, s.sp - 3]

@[simp] theorem mem_entryAddrs {s : State} {a : Word} :
    a ∈ s.entryAddrs ↔ a = s.sp - 1 ∨ a = s.sp - 2 ∨ a = s.sp - 3 := by simp [State.entryAddrs]

theorem stackCell_entryAddrs {s : State} (h : s.roomFor 3 = true) : ∀ a ∈ s.entryAddrs, s.StackCell a := by
  have h1 : s.sp - 1 - BitVec.ofNat 16 0 = s.sp - 1 := by bv_omega
  have h2 : s.sp - 1 - BitVec.ofNat 16 1 = s.sp - 2 := by bv_omega
  have h3 : s.sp - 1 - BitVec.ofNat 16 2 = s.sp - 3 := by bv_omega
  simp only [mem_entryAddrs, forall_eq_or_imp, forall_eq]
  exact ⟨h1 ▸ stackCell_of_roomFor h (i := 0) (by decide), h2 ▸ stackCell_of_roomFor h (i := 1) (by decide),
    h3 ▸ stackCell_of_roomFor h (i := 2) (by decide)⟩

theorem pushAddrs16_wrap (s : State) : ∀ a ∈ s.pushAddrs16, ∃ b ∈ s.entryAddrs, s.stackAddr a = s.stackAddr b := by
  have hnext : s.sp - 2 + 1 = s.sp - 1 := by bv_omega
  simp only [State.pushAddrs16, List.mem_cons, List.not_mem_nil, or_false, forall_eq_or_imp, forall_eq]
  exact ⟨⟨s.sp - 2, by simp, stackAddr_stackAddr s _⟩,
    ⟨s.sp - 1, by simp, by rw [stackAddr_stackAddr, stackAddr_stackAddr_add, hnext]⟩⟩

/-- Below a pushed word, the next byte down is the third of the stack bytes of entry. -/
theorem State.PushedWord.stackAddr_sp_sub_one {s p : State} {w : Word} (h : s.PushedWord w p) :
    p.stackAddr (p.sp - 1) = p.stackAddr (s.sp - 3) := by
  have hnext : s.sp - 2 - 1 = s.sp - 3 := by bv_omega
  rw [stackAddr_congr h.chip, stackAddr_congr h.chip, h.sp, stackAddr_stackAddr_sub, hnext]

theorem State.PushedWord.pushAddrs8_wrap {s p : State} {w : Word} (h : s.PushedWord w p) :
    ∀ a ∈ p.pushAddrs8, ∃ b ∈ s.entryAddrs, p.stackAddr a = p.stackAddr b := by
  simp only [State.pushAddrs8, List.mem_singleton, forall_eq]
  exact ⟨s.sp - 3, by simp, by rw [stackAddr_stackAddr, h.stackAddr_sp_sub_one]⟩

/-- What the two pushes of entry touch: the registers of SP and the three stack bytes. -/
def State.pushFootprint (s : State) : Footprint := ⟨s.spLocs ++ s.stackLocs s.entryAddrs, [], false⟩

theorem eq_of_mem_spLocs {s : State} {l : RegLoc} (hl : l ∈ s.spLocs) : l = .sph ∨ l = .spl := by
  unfold State.spLocs at hl
  split at hl <;> simp_all

/-- A register that is neither plain nor a half of SP is not touched. -/
theorem not_mem_pushFootprint {s : State} {l : RegLoc} (h : ∀ a ∈ s.entryAddrs, s.StackCell a) (hg : ∀ i, l ≠ .gpr i)
    (hb : ∀ i, l ≠ .bank i) (hsph : l ≠ .sph) (hspl : l ≠ .spl) : l ∉ s.pushFootprint.locs := fun hl =>
  (List.mem_append.mp hl).elim (fun h => (eq_of_mem_spLocs h).elim hsph hspl) (not_mem_stackLocs_of_cells h hg hb)

section

variable {s p t : State} {w : Word} {v : Byte}

theorem push16_pushFootprint (h : s.push16 w = .ok p) : s.Within s.pushFootprint p :=
  within_push16 (fun _ hl => List.mem_append_left _ hl)
    (fun l hl => List.mem_append_right _ (stackLocs_subset (pushAddrs16_wrap s) l hl)) h

theorem State.PushedWord.push8_pushFootprint (hp : s.PushedWord w p) (h : p.push8 v = .ok t) :
    p.Within s.pushFootprint t := by
  refine within_push8 (fun l hl => List.mem_append_left _ (spLocs_congr hp.chip ▸ hl))
    (fun l hl => List.mem_append_right _ ?_) h
  rw [← stackLocs_congr hp.chip hp.rp]
  exact stackLocs_subset hp.pushAddrs8_wrap l hl

theorem push16_storesIn_entryAddrs (h : s.push16 w = .ok p) : s.StoresIn [] (s.stackBytes s.entryAddrs) p :=
  storesIn_push16 (stackBytes_subset (pushAddrs16_wrap s)) h

theorem State.PushedWord.push8_storesIn_entryAddrs (hp : s.PushedWord w p) (h : p.push8 v = .ok t) :
    p.StoresIn [] (s.stackBytes s.entryAddrs) t := by
  rw [← stackBytes_congr hp.chip]
  exact storesIn_push8 (stackBytes_subset hp.pushAddrs8_wrap) h

end

/-- Where entry leaves FLAGS and the PC, FLAGS lowest (60_exceptions.md R285). -/
structure State.SavedFrame (s t : State) : Prop where
  chip : t.chip = s.chip
  rp : t.rp = s.rp
  sp : t.sp = s.stackAddr (s.sp - 3)
  flags : ∀ k, t.stackRead k (s.sp - 3) = .ok s.flags
  high : ∀ k, t.stackRead k (s.sp - 2) = .ok (hiByte s.pc)
  low : ∀ k, t.stackRead k (s.sp - 1) = .ok (loByte s.pc)

/-- The byte pushed below the PC leaves the two bytes of the PC as they were pushed. -/
theorem State.PushedWord.push8_flags {s p : State} (hp : s.PushedWord s.pc p)
    (hcell : ∀ a ∈ s.entryAddrs, s.StackCell a) (hm : memWf p.data = true) :
    ∃ t, p.push8 s.flags = .ok t ∧ s.SavedFrame t := by
  have hcell' (a : Word) (ha : a ∈ s.entryAddrs) : p.StackCell a := (hcell a ha).congr hp.chip hp.rp
  have h1 : s.sp - 1 ∈ s.entryAddrs := by simp
  have h2 : s.sp - 2 ∈ s.entryAddrs := by simp
  have h3 : s.sp - 3 ∈ s.entryAddrs := by simp
  obtain ⟨t, ht, hput⟩ := push8_of_cell s.flags hp.stackAddr_sp_sub_one (hcell' _ h3) hm
  have hkept (k : ReadSlot) (a : Word) (ha : a ∈ s.entryAddrs) (hne : loByte a ≠ loByte (s.sp - 3)) :
      t.stackRead k a = p.stackRead k a := by
    rw [hput.others k a (stackAddr_ne_of_loByte_ne hne)]
    exact (hcell' a ha).stackRead_congr (p.setSp_chip _) (p.setSp_rp _) (p.setSp_gpr _) (p.setSp_banks _)
      (p.setSp_data _) k
  refine ⟨t, ht, {
    chip := hput.chip.trans ((p.setSp_chip _).trans hp.chip)
    rp := hput.rp.trans ((p.setSp_rp _).trans hp.rp)
    sp := by rw [hput.sp, sp_setSp, stackAddr_stackAddr, stackAddr_congr hp.chip]
    flags := hput.read
    high := fun k => by
      rw [hkept k _ h2 (loByte_sub_ne _ (by decide)), hp.high]
    low := fun k => by
      rw [hkept k _ h1 (loByte_sub_ne _ (by decide)), hp.low] }⟩

theorem State.SavedFrame.congr {s t u : State} (h : s.SavedFrame t) (hcell : ∀ a ∈ s.entryAddrs, s.StackCell a)
    (hc : u.chip = t.chip) (hr : u.rp = t.rp) (hsp : u.sp = t.sp) (hg : u.gpr = t.gpr) (hb : u.banks = t.banks)
    (hd : u.data = t.data) : s.SavedFrame u where
  chip := hc.trans h.chip
  rp := hr.trans h.rp
  sp := hsp.trans h.sp
  flags k := by
    rw [((hcell _ (by simp)).congr h.chip h.rp).stackRead_congr hc hr hg hb hd, h.flags]
  high k := by
    rw [((hcell _ (by simp)).congr h.chip h.rp).stackRead_congr hc hr hg hb hd, h.high]
  low k := by
    rw [((hcell _ (by simp)).congr h.chip h.rp).stackRead_congr hc hr hg hb hd, h.low]

/-- What the two pushes of entry do: the frame they save, and what they leave alone. -/
structure State.Saves (s t : State) : Prop where
  frame : s.SavedFrame t
  within : s.Within s.pushFootprint t
  stores : s.StoresIn [] (s.stackBytes s.entryAddrs) t
  keeps : s.KeepsControl t
  prog : t.prog = s.prog

theorem pushes_of_room {s : State} (hroom : s.roomFor 3 = true) (hm : memWf s.data = true) :
    ∃ p t, s.push16 s.pc = .ok p ∧ p.push8 p.flags = .ok t ∧ s.Saves t := by
  have hcell := stackCell_entryAddrs hroom
  obtain ⟨p, hp, hword⟩ := push16_of_cells s.pc (hcell _ (by simp)) (hcell _ (by simp)) hm
  have hwithin := push16_pushFootprint hp
  have hflags : p.flags = s.flags :=
    hwithin.flags_eq (not_mem_pushFootprint hcell nofun nofun nofun nofun) rfl
  obtain ⟨t, ht, hframe⟩ := hword.push8_flags hcell ((keepsControl_push16 hp).data hm)
  exact ⟨p, t, hp, hflags ▸ ht, {
    frame := hframe
    within := hwithin.trans (hword.push8_pushFootprint ht)
    stores := (push16_storesIn_entryAddrs hp).trans (hword.push8_storesIn_entryAddrs ht)
    keeps := (keepsControl_push16 hp).trans (keepsControl_push8 ht)
    prog := (push8_prog ht).trans (push16_prog hp) }⟩

/-- What interrupt entry for source `n` does, but for the vector: the frame it saves, and what it leaves alone. -/
structure State.Entered (s : State) (n : Nat) (t : State) : Prop where
  frame : s.SavedFrame t
  held : ∀ l, l ≠ .flags → l ≠ .imr → l ∉ s.pushFootprint.locs → t.held l = s.held l
  stores : s.StoresIn [] (s.stackBytes s.entryAddrs) t
  imr : t.imr = setBit s.imr 7 false
  pending : t.pending = setBit s.pending n false
  runState : t.runState = .run
  prog : t.prog = s.prog

/-- Interrupt entry pushes the PC and FLAGS on three plain stack bytes. -/
theorem enterInterrupt_of_room {s : State} (n : Nat) (hroom : s.roomFor 3 = true) (hm : memWf s.data = true) :
    ∃ t, s.enterInterrupt n = .ok t ∧ s.Entered n t := by
  have hcell := stackCell_entryAddrs hroom
  obtain ⟨p, t, hp, ht, saved⟩ := pushes_of_room (s := { s with pending := setBit s.pending n false }) hroom hm
  have hframe : s.SavedFrame t := { saved.frame with }
  have himr : t.imr = s.imr :=
    saved.within.held .imr nofun (not_mem_pushFootprint (s := s) hcell nofun nofun nofun nofun)
  exact ⟨_, enterInterrupt_ok.mpr ⟨p, t, hp, ht, rfl⟩, {
    frame := hframe.congr hcell rfl rfl rfl rfl rfl rfl
    held := fun l hf hi hl => Eq.trans (by cases l <;> first | rfl | exact absurd rfl hi) (saved.within.held l hf hl)
    stores := ⟨saved.stores.prog, saved.stores.data⟩
    imr := congrArg (setBit · 7 false) himr
    pending := saved.keeps.pending
    runState := rfl
    prog := saved.prog }⟩

/-! ### What IRET restores -/

/-- The state once IRET has popped `f` into FLAGS. -/
def State.flagsPopped (t : State) (f : Byte) : State := { t.setSp (t.stackAddr (t.sp + 1)) with flags := f }

@[simp] theorem State.flagsPopped_flags (t : State) (f : Byte) : (t.flagsPopped f).flags = f := rfl
@[simp] theorem State.flagsPopped_imr (t : State) (f : Byte) : (t.flagsPopped f).imr = t.imr := t.setSp_imr _
@[simp] theorem State.flagsPopped_prog (t : State) (f : Byte) : (t.flagsPopped f).prog = t.prog := t.setSp_prog _

/-- Once FLAGS is popped, the PC lies on the stack as CALL would have left it. -/
theorem State.SavedFrame.pushedWord {s t : State} (h : s.SavedFrame t) (hcell : ∀ a ∈ s.entryAddrs, s.StackCell a) :
    s.PushedWord s.pc (t.flagsPopped s.flags) := by
  have hback : s.sp - 3 + 1 = s.sp - 2 := by bv_omega
  have hread {k : ReadSlot} {a : Word} (ha : a ∈ s.entryAddrs) :
      (t.flagsPopped s.flags).stackRead k a = t.stackRead k a :=
    ((hcell a ha).congr h.chip h.rp).stackRead_congr (t := t.flagsPopped s.flags) (t.setSp_chip _) (t.setSp_rp _)
      (t.setSp_gpr _) (t.setSp_banks _) (t.setSp_data _) k
  exact {
    chip := (t.setSp_chip _).trans h.chip
    rp := (t.setSp_rp _).trans h.rp
    sp := calc
      _ = (t.setSp (t.stackAddr (t.sp + 1))).sp := rfl
      _ = s.stackAddr (s.sp - 2) := by
        rw [sp_setSp, stackAddr_stackAddr, stackAddr_congr h.chip, h.sp, stackAddr_stackAddr_add, hback]
    high := fun k => (hread (by simp)).trans (h.high k)
    low := fun k => (hread (by simp)).trans (h.low k) }

/-- IRET takes FLAGS and the PC from the frame entry saved, and SP back to where it was. -/
theorem State.SavedFrame.leaveInterrupt {s t : State} (h : s.SavedFrame t)
    (hcell : ∀ a ∈ s.entryAddrs, s.StackCell a) :
    ∃ u, t.leaveInterrupt = .ok u ∧ u.pc = s.pc ∧ u.flags = s.flags ∧ u.sp = s.sp ∧ u.imr = setBit t.imr 7 true ∧
      u.prog = t.prog := by
  have hword := h.pushedWord hcell
  have hpop8 : t.pop8 .stack0 = .ok (s.flags, t.setSp (t.stackAddr (t.sp + 1))) :=
    pop8_ok.mpr ⟨by rw [h.sp, stackRead_stackAddr h.chip, h.flags], rfl⟩
  refine ⟨_, leaveInterrupt_ok.mpr ⟨_, _, _, _, hpop8, hword.pop16 .stack1 .stack2, rfl⟩, rfl, ?_, ?_, ?_, ?_⟩
  · simp only [State.setSp_flags, State.flagsPopped_flags]
  · calc _ = ((t.flagsPopped s.flags).setSp s.sp).sp := rfl
      _ = s.sp := by rw [sp_setSp, stackAddr_congr hword.chip, stackAddr_sp]
  · simp only [State.setSp_imr, State.flagsPopped_imr]
  · simp only [State.setSp_prog, State.flagsPopped_prog]

/-- Settles O22: entry saves a frame and IRET takes it back; outside the stack bytes, the registers of SP, FLAGS and IMR both
keep to their footprints, and those four are restored. -/
theorem entryThenIret : Obligations.EntryThenIret := by
  intro s n hbit7 hroom hm
  have hcell := stackCell_entryAddrs hroom
  obtain ⟨t, ht, entered⟩ := enterInterrupt_of_room n hroom hm
  obtain ⟨u, hu, hpc, hflags, hsp, himr, hprog⟩ := entered.frame.leaveInterrupt hcell
  have hexec : exec .iret t = .next u.retire := finish_next.mpr ⟨u, hu, rfl⟩
  have hmodes := exec_keepsModes hexec
  have hwithin := exec_within hexec
  have hchip : u.chip = s.chip := hwithin.chip.trans entered.frame.chip
  have himr : u.imr = s.imr := by rw [himr, entered.imr, setBit_setBit_of_getLsbD false (by decide) hbit7]
  refine ⟨t, u.retire, takeInterrupt_next.mpr ht, hexec, hpc, hflags, himr, fun l hl => ?_, fun a ha => ?_,
    hprog.trans entered.prog, (hmodes.runState nofun nofun).trans entered.runState, rfl,
    hmodes.pending.trans entered.pending⟩
  · by_cases hf : l = .flags
    · exact hf ▸ hflags
    by_cases hi : l = .imr
    · exact hi ▸ himr
    by_cases hl' : l ∈ s.spLocs
    · exact held_of_mem_spLocs (t := u.retire) hchip hsp hl'
    · have hiret : l ∉ (footprint .iret t).locs := by
        change l ∉ RegLoc.flags :: .imr :: t.spLocs
        rw [spLocs_congr entered.frame.chip]
        simp [hf, hi, hl']
      have hentry : l ∉ s.pushFootprint.locs := fun h => (List.mem_append.mp h).elim hl' hl
      exact (hwithin.held l hf hiret).trans (entered.held l hf hi hentry)
  · obtain ⟨hmt, hkept⟩ := entered.stores.data hm
    exact (((exec_storesIn hexec).data hmt).2 a nofun).trans (hkept a ha)

end Machine

end Sys2Proof

/-! PROOFS of the family 45_cpu_control.md: the carry instructions, DI and EI, NOP and SRP (R250 to R252, R254 to R257), HALT and
STOP (R253, R258), and the two instructions of the Watch-Dog (R259, R260). -/

namespace Sys2Proof.Machine

/-! ## CCF, RCF and SCF (45_cpu_control.md R250, R255, R256) -/

theorem applyFlags_carry (l : FlagBits) (f : Byte) (b : Bool) : applyFlags l f { c := some b } = setBit f l.c b := rfl

/-- Carry alone needs no admitted layout: whatever bit holds C is the one bit written. -/
theorem onlyCarry_applyFlags (l : FlagBits) (f : Byte) (b : Bool) :
    OnlyCarry l b f (applyFlags l f { c := some b }) where
  carry := by
    rw [flag, applyFlags_carry]
    exact (getLsbD_setBit f l.c l.c b l.c.isLt).trans (if_pos rfl)
  others j hj := by rw [applyFlags_carry, getLsbD_setBit f l.c j b l.c.isLt, if_neg hj]

theorem setFlags_carry (s : State) (b : Bool) :
    ∃ fl, setFlags { c := some b } s = .next { s with flags := fl }.retire ∧ OnlyCarry s.chip.flagBits b s.flags fl :=
  ⟨_, setFlags_next.mpr rfl, onlyCarry_applyFlags s.chip.flagBits s.flags b⟩

/-! ## DI and EI (45_cpu_control.md R251, R252) -/

theorem msb_setBit_seven (b : Byte) (v : Bool) : (setBit b 7 v).msb = v := by
  rw [BitVec.msb_eq_getLsbD_last, getLsbD_setBit b 7 (8 - 1) v (by decide), if_pos rfl]

theorem extractLsb'_setBit_seven (b : Byte) (v : Bool) : (setBit b 7 v).extractLsb' 0 7 = b.extractLsb' 0 7 := by
  refine BitVec.eq_of_getLsbD_eq fun j hj => ?_
  have hne : 0 + j ≠ 7 := by omega
  rw [BitVec.getLsbD_extractLsb', BitVec.getLsbD_extractLsb', getLsbD_setBit b 7 (0 + j) v (by decide), if_neg hne]

/-- Settles O52: C is the one bit of FLAGS that three of them write, bit 7 the one bit of IMR that DI and EI write. -/
theorem controlResult : Obligations.ControlResult := fun s v =>
  ⟨setFlags_carry s (!s.flag .c), setFlags_carry s false, setFlags_carry s true,
    ⟨_, finish_ok _, msb_setBit_seven s.imr false, extractLsb'_setBit_seven s.imr false⟩,
    ⟨_, finish_ok _, msb_setBit_seven s.imr true, extractLsb'_setBit_seven s.imr true⟩,
    execNop_next.mpr rfl, finish_ok { s with rp := v }⟩

/-! ## HALT and STOP (45_cpu_control.md R253, R258; 70_reset_and_hazards.md R320) -/

/-- An instruction with a guard raises its one fault exactly where the guard fails. -/
theorem finish_guarded_fault {c : Bool} {u : State} {e e' : Fault} :
    finish (if c then .ok u else .error e) = .fault e' ↔ c = false ∧ e' = e := by
  cases c with
  | false => simpa using eq_comm
  | true => simp

theorem execHalt_fault {s : State} {e : Fault} : execHalt s = .fault e ↔ s.prevNop = false ∧ e = .haltWithoutNop :=
  finish_guarded_fault

theorem execStop_fault {s : State} {e : Fault} : execStop s = .fault e ↔ s.prevNop = false ∧ e = .stopWithoutNop :=
  finish_guarded_fault

/-- Settles O53: `prevNop` is the guard of both. -/
theorem haltStopResult : Obligations.HaltStopResult := fun _ =>
  ⟨fun hnop => ⟨execHalt_next.mpr ⟨hnop, rfl⟩, execStop_next.mpr ⟨hnop, rfl⟩⟩,
    fun hnop => ⟨execHalt_fault.mpr ⟨hnop, rfl⟩, execStop_fault.mpr ⟨hnop, rfl⟩⟩⟩

/-! ## WDT and WDH (45_cpu_control.md R259, R260; 70_reset_and_hazards.md R321; log 13) -/

/-- The free values reach Z, S and V only. -/
theorem losesZSV_withFlags {s : State} (hwf : s.chip.wf = true) :
    LosesZSV s.chip.flagBits s.flags (s.withFlags s.freeZSV).flags where
  toKeepsCDH := keepsCDH_applyFlags (u := s.freeZSV) (flagBits_wf hwf) rfl rfl rfl s.flags
  user := user_applyFlags s.chip.flagBits s.flags s.freeZSV

/-- Settles O54: the part's Watch-Dog is the guard of both, and WDH's disjunction is the statement's choice. -/
theorem watchDogInstructions : Obligations.WatchDogInstructions := by
  intro s hwdt hwf
  have hhalt : (s.wdtInHalt || s.wdtEnabled) = if s.wdtEnabled then true else s.wdtInHalt := by
    rw [Bool.if_true_left, Bool.decide_eq_true, Bool.or_comm]
  refine ⟨⟨_, execWdt_next.mpr ⟨hwdt, rfl⟩, losesZSV_withFlags hwf⟩, ⟨_, ?_, losesZSV_withFlags hwf⟩⟩
  rw [← hhalt]
  exact execWdh_next.mpr ⟨hwdt, rfl⟩

end Sys2Proof.Machine

/-! PROOFS of the family 60_exceptions.md: requests, their masking and priority (R281 to R284, R287), interrupt entry (R285,
R288), HALT and STOP (R297, R298), and the Watch-Dog's ticks (R293 to R295). -/

namespace Sys2Proof.Machine

section

variable {s : State} {n : Nat}

/-! ## One turn of the schedule -/

theorem tailInputs_of_cons {i : Input} {rest : List Input} (h : s.inputs = i :: rest) :
    s.tailInputs = { s with inputs := rest } := by
  rw [State.tailInputs, h, List.tail_cons]

theorem cpuStep_halt (hr : s.runState = .halt) : cpuStep s = haltStep s := by
  simp only [cpuStep, hr]

theorem cpuStep_stop (hr : s.runState = .stop) : cpuStep s = .next s := by
  simp only [cpuStep, hr, stopStep]

theorem step_halt (hr : s.runState = .halt) (hturn : s.cpuTurn = true) : step s = haltStep s.tailInputs :=
  (step_of_cpuTurn hturn).trans (cpuStep_halt (s := s.tailInputs) hr)

/-! ## Which requests may be taken (60_exceptions.md R282, R284, R287; log 15) -/

/-- R284 and R287 by the bits: a source is compared with those alone that IMR lets through. -/
theorem irqEligible_iff_bits : s.irqEligible n = true ↔
    n < s.chip.nIrq ∧ s.pending.getLsbD n = true ∧ s.imr.getLsbD 7 = true ∧ s.imr.getLsbD n = true ∧
      ∀ m, m < s.chip.nIrq → s.pending.getLsbD m = true → s.imr.getLsbD m = true → s.chip.before m n = false := by
  simp only [irqEligible_iff, irqReady_iff, and_assoc]
  refine and_congr_right fun _ => and_congr_right fun _ => and_congr_right fun hmaster => and_congr_right fun _ => ?_
  exact forall_congr' fun m =>
    ⟨fun h hm hp hi => h ⟨hm, hp, hmaster, hi⟩, fun h ⟨hm, hp, _, hi⟩ => h hm hp hi⟩

theorem mem_eligibleSources : n ∈ s.eligibleSources ↔ s.irqEligible n = true := by
  simp only [State.eligibleSources, List.mem_filter, List.mem_range, and_iff_right_iff_imp]
  exact fun h => (irqEligible_iff_bits.mp h).1

/-- Where requests are ready, one of them may be taken: one that stands first in the part's list. -/
theorem exists_irqEligible (h : s.irqReady n = true) : ∃ m, s.irqEligible m = true := by
  obtain ⟨m, hm, hmin⟩ :=
    exists_minimalFor_of_wellFoundedLT (fun m => s.irqReady m = true) (fun m => s.chip.irqPriority.idxOf m) ⟨n, h⟩
  refine ⟨m, irqEligible_iff.mpr ⟨hm, fun j hj => ?_⟩⟩
  have hle : ¬ s.chip.irqPriority.idxOf j < s.chip.irqPriority.idxOf m := fun hlt => absurd (hmin hj hlt.le) hlt.not_ge
  simp [Chip.before, hle]

/-- In the part's list a source is before all that stand after its first place. -/
theorem before_of_mem_lower {c : Chip} {higher lower : List Nat} {m : Nat} (hc : c.irqPriority = higher ++ n :: lower)
    (hn : n ∉ higher) (hm : m ∉ higher) (hne : m ≠ n) (hl : m ∈ lower) : c.before n m = true := by
  simp [Chip.before, hc, List.idxOf_append_of_notMem hn, List.idxOf_append_of_notMem hm, hl,
    List.idxOf_cons_ne lower hne.symm]

/-! ## HALT (60_exceptions.md R297) -/

theorem chooseSource_mem {ns : List Nat} (h : s.chooseSource ns = some n) : n ∈ ns := by
  match ns with
  | [] => cases h
  | [m] =>
    cases h
    exact List.mem_singleton_self n
  | m :: k :: ns =>
    cases h
    have hlt : Config.irqChoice s.time % (ns.length + 2) < (m :: k :: ns).length := Nat.mod_lt _ (by omega)
    rw [List.getD_eq_getElem _ _ hlt]
    exact List.getElem_mem hlt

theorem chooseSource_eq_none {ns : List Nat} : s.chooseSource ns = none ↔ ns = [] := by
  match ns with
  | [] => simp [State.chooseSource]
  | [_] => simp [State.chooseSource]
  | _ :: _ :: _ => simp [State.chooseSource]

/-- All that HALT mode can do. -/
theorem haltStep_cases (s : State) :
    (∃ m, s.irqEligible m = true ∧ haltStep s = takeInterrupt m s) ∨
      (∀ m, ¬ s.irqReady m = true) ∧ haltStep s = .next s := by
  unfold haltStep
  split
  · next m hm => exact .inl ⟨m, mem_eligibleSources.mp (chooseSource_mem hm), rfl⟩
  · next hnone =>
    refine .inr ⟨fun m hm => ?_, rfl⟩
    obtain ⟨k, hk⟩ := exists_irqEligible hm
    have hmem := mem_eligibleSources.mpr hk
    rw [chooseSource_eq_none.mp hnone] at hmem
    exact List.not_mem_nil hmem

theorem haltStep_of_irqReady (h : s.irqReady n = true) :
    ∃ m, s.irqEligible m = true ∧ haltStep s = takeInterrupt m s :=
  (haltStep_cases s).resolve_right fun hwait => hwait.1 n h

theorem haltStep_of_not_irqReady (h : ∀ m, ¬ s.irqReady m = true) : haltStep s = .next s := by
  obtain ⟨m, hm, -⟩ | ⟨-, hwait⟩ := haltStep_cases s
  · exact absurd (irqEligible_iff.mp hm).1 (h m)
  · exact hwait

end

/-- Settles O24: what HALT mode does is decided by whether a request is ready. -/
theorem haltWaitsAndWakes : Obligations.HaltWaitsAndWakes := by
  intro s hr hturn
  rw [step_halt hr hturn]
  refine ⟨fun hnone => haltStep_of_not_irqReady fun m hm => hnone m (irqReady_iff.mp hm), fun n hn hp hmaster hi => ?_⟩
  obtain ⟨m, hm, hstep⟩ := haltStep_of_irqReady (s := s.tailInputs) (irqReady_iff.mpr ⟨hn, hp, hmaster, hi⟩)
  obtain ⟨hm, hpm, -, him, hfirst⟩ := irqEligible_iff_bits.mp hm
  exact ⟨m, hm, hpm, him, hfirst, hstep⟩

/-- Settles O25: any other request that may be taken would stand after `n` in the list, and `n` goes before it. -/
theorem priorityOrder : Obligations.PriorityOrder := by
  intro s higher lower n hr hturn hlist ready hn hhigher hlisted
  rw [step_halt hr hturn]
  have hn' : s.tailInputs.irqReady n = true := irqReady_iff.mpr hn
  obtain ⟨m, hm, hstep⟩ := haltStep_of_irqReady hn'
  obtain ⟨hm, hfirst⟩ := irqEligible_iff.mp hm
  have hm : ready m := irqReady_iff.mp hm
  obtain rfl : m = n := by
    by_contra hne
    have hbefore : s.chip.before n m = true := before_of_mem_lower hlist (fun h => hhigher n h hn)
      (fun h => hhigher m h hm) hne ((hlisted m hm).resolve_left hne)
    exact Bool.false_ne_true ((hfirst n hn').symm.trans hbefore)
  exact hstep

/-! ## Requests and their acceptance (60_exceptions.md R283, R284) -/

section

variable {s : State} {n : Nat}

theorem acceptRequest_of_irqEligible (hr : s.runState ≠ .stop) (h : s.irqEligible n = true) :
    acceptRequest n s = takeInterrupt n s := if_pos ⟨hr, h⟩

theorem acceptRequest_of_not (h : ¬ (s.runState ≠ .stop ∧ s.irqEligible n = true)) : acceptRequest n s = .next s :=
  if_neg h

/-- The pending bits once source `n` has raised its request. -/
def State.requested (s : State) (n : Nat) : Byte := if n < s.chip.nIrq then setBit s.pending n true else s.pending

theorem raiseRequest_eq (n : Nat) (s : State) : raiseRequest n s = .next { s with pending := s.requested n } := by
  unfold raiseRequest State.requested
  split_ifs <;> rfl

theorem nIrq_le_of_wf {c : Chip} (h : c.wf = true) : c.nIrq ≤ 7 := by
  simp only [Chip.wf, Bool.and_eq_true, decide_eq_true_eq] at h
  obtain ⟨⟨⟨-, hle⟩, -⟩, -⟩ := h
  exact hle

/-- A part the spec admits has a pending bit for each of its sources. -/
theorem getLsbD_requested (hwf : s.chip.wf = true) (n b : Nat) :
    (s.requested n).getLsbD b = (s.pending.getLsbD b || (b == n && decide (n < s.chip.nIrq))) := by
  unfold State.requested
  split_ifs with hn
  · have hlt : n < 8 := by
      have := nIrq_le_of_wf hwf
      omega
    rw [getLsbD_setBit _ _ _ _ hlt]
    by_cases hb : b = n <;> simp [hb, hn]
  · simp [hn]

end

/-- Settles O23: the bit a request sets is its own, and an accept event the rule does not allow is let pass. -/
theorem requestsAndMasking : Obligations.RequestsAndMasking := by
  refine fun s n rest => ⟨fun hin hwf => ⟨s.requested n, ?_, getLsbD_requested hwf n⟩, fun hin hnot => ?_⟩
  · calc step s = raiseRequest n s.tailInputs := step_of_env hin
      _ = .next { s.tailInputs with pending := s.requested n } := raiseRequest_eq n s.tailInputs
      _ = _ := by rw [tailInputs_of_cons hin]
  · have hrefuse : ¬ (s.tailInputs.runState ≠ .stop ∧ s.tailInputs.irqEligible n = true) :=
      mt (And.imp_right irqEligible_iff_bits.mp) hnot
    calc step s = acceptRequest n s.tailInputs := step_of_env hin
      _ = .next s.tailInputs := acceptRequest_of_not hrefuse
      _ = _ := by rw [tailInputs_of_cons hin]

/-! ## Interrupt entry (60_exceptions.md R285, R288; log 5, log 6) -/

section

variable {s t : State} {n : Nat}

/-- The PC comes from the vector as program memory stands after the pushes (R288). -/
theorem enterInterrupt_pc (h : s.enterInterrupt n = .ok t) : t.pc = t.progWord (t.chip.vector n) := by
  obtain ⟨p, u, -, -, rfl⟩ := enterInterrupt_ok.mp h
  rfl

theorem enterInterrupt_inputs (h : s.enterInterrupt n = .ok t) : t.inputs = s.inputs := by
  obtain ⟨p, u, hpc, hflags, rfl⟩ := enterInterrupt_ok.mp h
  exact ((keepsControl_push16 hpc).trans (keepsControl_push8 hflags)).inputs

/-- FLAGS, the one register `State.Entered` leaves out, is none of three plain stack bytes. -/
theorem enterInterrupt_flags (hroom : s.roomFor 3 = true) (hm : memWf s.data = true) (h : s.enterInterrupt n = .ok t) :
    t.flags = s.flags := by
  obtain ⟨p, u, hpc, hflags, rfl⟩ := enterInterrupt_ok.mp h
  obtain ⟨p', u', hpc', hflags', saved⟩ := pushes_of_room (s := { s with pending := setBit s.pending n false }) hroom hm
  obtain rfl : p = p' := Except.ok.inj (hpc.symm.trans hpc')
  obtain rfl : u = u' := Except.ok.inj (hflags.symm.trans hflags')
  exact saved.within.flags_eq
    (not_mem_pushFootprint (s := s) (stackCell_entryAddrs hroom) nofun nofun nofun nofun) rfl

/-- The frame entry saves, read from the new SP upwards. -/
theorem State.SavedFrame.read_up (h : s.SavedFrame t) :
    (∀ k, t.stackRead k t.sp = .ok s.flags) ∧
      (∀ k, t.stackRead k (t.stackAddr (t.sp + 1)) = .ok (hiByte s.pc)) ∧
      (∀ k, t.stackRead k (t.stackAddr (t.sp + 2)) = .ok (loByte s.pc)) := by
  have hone : s.sp - 3 + 1 = s.sp - 2 := by bv_omega
  have htwo : s.sp - 3 + 2 = s.sp - 1 := by bv_omega
  have hat (b : Word) (k : ReadSlot) : t.stackRead k (t.stackAddr (t.sp + b)) = t.stackRead k (s.sp - 3 + b) := by
    rw [stackAddr_congr h.chip, h.sp, stackAddr_stackAddr_add, stackRead_stackAddr h.chip]
  refine ⟨fun k => ?_, fun k => ?_, fun k => ?_⟩
  · rw [h.sp, stackRead_stackAddr h.chip, h.flags]
  · rw [hat, hone, h.high]
  · rw [hat, htwo, h.low]

end

/-- Settles O21: the event is accepted, and the entry it starts has room to save its frame. -/
theorem interruptEntry : Obligations.InterruptEntry := by
  intro s n rest hin hr hn hp hmaster hi hfirst hroom hm
  have heligible : s.tailInputs.irqEligible n = true := irqEligible_iff_bits.mpr ⟨hn, hp, hmaster, hi, hfirst⟩
  obtain ⟨t, ht, entered⟩ := enterInterrupt_of_room (s := s.tailInputs) n hroom hm
  have htake : takeInterrupt n s.tailInputs = .next t := takeInterrupt_next.mpr ht
  have hstep : step s = .next t :=
    calc step s = acceptRequest n s.tailInputs := step_of_env hin
      _ = takeInterrupt n s.tailInputs := acceptRequest_of_irqEligible hr heligible
      _ = .next t := htake
  have hprog : t.prog = s.prog := entered.prog
  have hpc : t.pc = s.progWord (s.chip.vector n) := by
    rw [enterInterrupt_pc ht, entered.frame.chip]
    simp only [State.progWord, State.progByte, hprog, State.tailInputs]
  have himr (b : Nat) : t.imr.getLsbD b = if b = 7 then false else s.imr.getLsbD b := by
    rw [entered.imr, getLsbD_setBit _ _ _ _ (by decide)]
    rfl
  have hpending (b : Nat) : t.pending.getLsbD b = if b = n then false else s.pending.getLsbD b := by
    rw [entered.pending, getLsbD_setBit _ _ _ _ (BitVec.lt_of_getLsbD hp)]
    rfl
  obtain ⟨hflags, hhigh, hlow⟩ := entered.frame.read_up
  exact ⟨t, hstep, hpc, entered.frame.sp, hflags, hhigh, hlow, (himr 7).trans (if_pos rfl),
    fun b hb => (himr b).trans (if_neg hb.ne), (hpending n).trans (if_pos rfl),
    fun b hb => (hpending b).trans (if_neg hb), enterInterrupt_flags (s := s.tailInputs) hroom hm ht,
    entered.frame.rp, entered.runState, takeInterrupt_prevNop htake, hprog,
    (enterInterrupt_inputs ht).trans (congrArg State.inputs (tailInputs_of_cons hin))⟩

/-! ## The Watch-Dog's clock (60_exceptions.md R293 to R295; log 13) -/

section

variable {s : State}

theorem wdtCounting_iff : s.wdtCounting = true ↔
    s.wdtEnabled = true ∧ (s.runState = .run ∨ (s.runState = .halt ∧ s.wdtInHalt = true) ∨
      (s.runState = .stop ∧ s.chip.wdtInStop = true)) := by
  cases hr : s.runState <;> simp [State.wdtCounting, hr]

theorem tickWatchDog_of_not_counting (h : ¬ s.wdtCounting = true) : tickWatchDog s = .next s := by
  rw [tickWatchDog, if_neg h]

theorem tickWatchDog_of_lt (h : s.wdtCounting = true) (hlt : s.wdtCount + 1 < s.chip.wdtTimeout) :
    tickWatchDog s = .next { s with wdtCount := s.wdtCount + 1 } := by
  rw [tickWatchDog, if_pos h, if_neg (Nat.not_le.mpr hlt)]

theorem tickWatchDog_of_terminal (h : s.wdtCounting = true) (hle : s.chip.wdtTimeout ≤ s.wdtCount + 1) :
    tickWatchDog s = .next s.resetEvent := by
  rw [tickWatchDog, if_pos h, if_pos hle]

end

/-- Settles O28: a tick by whether the Watch-Dog counts and how far it has counted. -/
theorem watchDogTick : Obligations.WatchDogTick := by
  intro s rest hin
  have htick : step s = tickWatchDog s.tailInputs := step_of_env hin
  rw [htick, tailInputs_of_cons hin]
  exact ⟨fun hnot => tickWatchDog_of_not_counting (mt wdtCounting_iff.mp hnot),
    fun hcounts hlt => tickWatchDog_of_lt (wdtCounting_iff.mpr hcounts) hlt,
    fun hcounts hle => tickWatchDog_of_terminal (wdtCounting_iff.mpr hcounts) hle⟩

/-! ## STOP (60_exceptions.md R298) -/

section

variable {s t : State} {n : Nat}

/-- The state differs from `s` in its pending bits and the Watch-Dog's count at most. -/
def State.Waits (s t : State) : Prop := t = { s with pending := t.pending, wdtCount := t.wdtCount }

theorem State.Waits.refl (s : State) : s.Waits s := rfl

theorem raiseRequest_waits (h : raiseRequest n s = .next t) : s.Waits t := by
  rw [raiseRequest_eq] at h
  cases h
  rfl

theorem acceptRequest_stop (hr : s.runState = .stop) (n : Nat) : acceptRequest n s = .next s :=
  acceptRequest_of_not fun h => h.1 hr

theorem tickWatchDog_waits_or_reset (h : tickWatchDog s = .next t) :
    s.Waits t ∨ t = s.resetEvent ∧ s.wdtCounting = true := by
  cases h
  split_ifs with hcounts
  · exact .inr ⟨rfl, hcounts⟩
  · exact .inl rfl
  · exact .inl (.refl s)

end

/-- Settles O26: of the turns of the schedule a reset and a tick alone can do more than wait. -/
theorem stopEndsByReset : Obligations.StopEndsByReset := by
  intro s t hr h
  have hr' : s.tailInputs.runState = .stop := hr
  obtain hturn | ⟨e, rest, hin⟩ := cpuTurn_or_env s
  · rw [step_of_cpuTurn hturn, cpuStep_stop hr'] at h
    cases h
    exact .inl (State.Waits.refl s.tailInputs)
  · have hhead : s.inputs.head? = some (.env e) := by rw [hin, List.head?_cons]
    rw [step_of_env hin] at h
    cases e with
    | request n => exact .inl (raiseRequest_waits h)
    | accept n =>
      rw [environment, acceptRequest_stop hr'] at h
      cases h
      exact .inl (State.Waits.refl s.tailInputs)
    | wdtTick =>
      obtain hwaits | ⟨hreset, hcounts⟩ := tickWatchDog_waits_or_reset h
      · exact .inl hwaits
      · obtain ⟨henabled, hmode⟩ := wdtCounting_iff.mp hcounts
        have hstop : s.tailInputs.chip.wdtInStop = true := by simpa [hr'] using hmode
        exact .inr ⟨hreset, .inr ⟨hhead, henabled, hstop⟩⟩
    | reset =>
      cases h
      exact .inr ⟨rfl, .inl hhead⟩

end Sys2Proof.Machine

/-! PROOFS of the family 70_reset_and_hazards.md: the RESET event (R310). -/

namespace Sys2Proof.Machine

theorem step_of_reset {s : State} {rest : List Input} (h : s.inputs = .env .reset :: rest) :
    step s = .next s.tailInputs.resetEvent := step_of_env h

/-- Settles O27: the run state is not looked at, so the next state is the RESET event's, field by field. -/
theorem resetEffect : Obligations.ResetEffect := by
  intro s rest hin
  have hinputs : s.tailInputs.resetEvent.inputs = rest := by
    rw [State.resetEvent_inputs, tailInputs_of_cons hin]
  exact ⟨s.tailInputs.resetEvent, step_of_reset hin, State.resetEvent_pc _, State.resetEvent_runState _,
    State.resetEvent_prevNop _, State.resetEvent_wdtEnabled _, State.resetEvent_wdtInHalt _,
    State.resetEvent_prog s.tailInputs, State.resetEvent_chip s.tailInputs, hinputs⟩

end Sys2Proof.Machine
